-- ==== Sys2Proof/Word.lean ====
section
/-! DEFINITION. The widths of the NesOxyde 6502's values (00_scope.md R9, R13). -/

namespace Sys2Proof

/-- A data byte: A, X, Y, S, every operand byte, every memory byte (R13). -/
abbrev Byte := BitVec 8

/-- A 16-bit address: PC, every effective address, every pointer (R13). -/
abbrev Addr := BitVec 16

end Sys2Proof
end

