-- ==== Sys2Proof/Config.lean ====
section
/-! DEFINITION. What a launch fixes (00_scope.md R10), and the behaviours the spec leaves to the machine around the
CPU: the `Bus` oracle and the DMA stall, as constants with no body. -/

namespace Sys2Proof

/-- `UnofficialPolicy` (47_unofficial.md R230): what the 105 unofficial opcodes do. -/
inductive Policy
  /-- Every unofficial opcode is refused (R231). -/
  | refuse
  /-- Every unofficial opcode except JAM is a no-op of known length and cost (R232). -/
  | nop
  /-- The stable opcodes execute their known semantics (R233). -/
  | semantic
deriving DecidableEq, Repr

/-- The parameters of 00_scope.md R10 that are plain data. One value holds for a whole run: no operation of the
model writes it. -/
structure Config where
  /-- `UnofficialPolicy` (R230). -/
  policy : Policy
  /-- `DummyAccesses` (40_addressing.md R116): whether the chip's extra bus cycles are performed. -/
  dummyAccesses : Bool
  /-- `NmiSetsI` (60_exceptions.md R275): NMI entry sets I (true) or clears it (false). -/
  nmiSetsI : Bool
  /-- `CycleWidth` (10_state.md R35): the width in bits of the cycle counter. -/
  cycleWidth : Nat
  /-- Whether the cartridge has mapper id 0, the fixed mapping (20_memory.md R56). -/
  mapperFixed : Bool
deriving DecidableEq, Repr

/-- The reference values of R10's table (the spec's own choices D3, D6, D8, D13), and no fixed mapper.
DESIGN CHOICE (entry 1), unsafe: a claim about a run from `State.reset` may lean on these values. -/
def Config.reference : Config :=
  { policy := .semantic, dummyAccesses := false, nmiSetsI := true, cycleWidth := 64, mapperFixed := false }

/-- The power-on draws of 70_reset_and_hazards.md R301 and 20_memory.md R54: `InitA` .. `InitN`, and `InitRam` as the
bytes from RAM cell 0 on (cells past the list's end read 0x00; bytes past cell 0x7FF are ignored). -/
structure Draw where
  a : Byte
  x : Byte
  y : Byte
  c : Bool
  z : Bool
  d : Bool
  v : Bool
  n : Bool
  ram : List Byte
deriving DecidableEq, Repr

/-- The simulator's reference draw: all 0 (92_eei_decisions.md D14, D21). DESIGN CHOICE (entries 4 and 5), unsafe. -/
def Draw.reference : Draw :=
  { a := 0, x := 0, y := 0, c := false, z := false, d := false, v := false, n := false, ram := [] }

/-! The `Bus` parameter (20_memory.md R55, 92_eei_decisions.md D17): everything behind the CPU's boundary is one token,
a natural number, that only the constants below read. None has a body, so nothing provable depends on a device's
behaviour. DESIGN CHOICE (entry 2), safe. -/

/-- The byte the devices in this state drive on a read of this address; `none`: no device answers there, an open-bus
read of unmapped cartridge space (20_memory.md R51, 93_implementation_defined.md U16). -/
opaque Config.busAnswer : Nat → Addr → Option Byte

/-- The devices' state after a read of this address (R55 "may change its own state", R57). -/
opaque Config.busAfterRead : Nat → Addr → Nat

/-- The devices' state after this byte was written to this address (R55, R59). -/
opaque Config.busAfterWrite : Nat → Addr → Byte → Nat

/-- The devices' state after they caught up with a step of this many cycles (20_memory.md R70, 60_exceptions.md R283). -/
opaque Config.busAfterCycles : Nat → Nat → Nat

/-- The devices' state after the console's reset button (70_reset_and_hazards.md R302 "the devices' own reset behaviour"). -/
opaque Config.busAfterReset : Nat → Nat

/-- The devices' state after the console was switched on (R300 "The devices' own power-on states"). -/
opaque Config.busAfterPowerOn : Nat → Nat

/-- `DmaStall` (20_memory.md R62): the cycles the bus adds to the step that wrote 0x4014. The spec's value is OPEN
(92_eei_decisions.md D20); a function of the devices' state (entry 11), safe. -/
opaque Config.dmaStall : Nat → Nat

end Sys2Proof
end

