-- ==== Sys2Proof/Machine/Bits.lean ====
section
/-! DEFINITION. Bytes and addresses: byte order, extension, pages (00_scope.md R12, R13, R16; 20_memory.md R60). -/

namespace Sys2Proof

/-- `hi ++ lo` (R12): the 16-bit value with `hi` in its high byte. -/
def word (hi lo : Byte) : Addr := hi ++ lo

/-- `v[7:0]`, the byte at the lower address (R60). -/
def loByte (w : Addr) : Byte := w.setWidth 8

/-- `v[15:8]`, the byte at the higher address (R60). -/
def hiByte (w : Addr) : Byte := (w >>> 8).setWidth 8

/-- `zext_16` (R13). -/
def zext16 (b : Byte) : Addr := b.setWidth 16

/-- `sext_16` (R13): two's-complement extension, as a relative offset is read. -/
def sext16 (b : Byte) : Addr := b.signExtend 16

/-- `PageCross(a, b)`: `a[15:8] != b[15:8]` (R16). -/
def pageCross (a b : Addr) : Bool := hiByte a != hiByte b

/-- `(page & 0xFF00) | (low & 0x00FF)`: the address in the page of the first with the low byte of the second. -/
def inPageOf (page low : Addr) : Addr := word (hiByte page) (loByte low)

/-- The stack slot `0x0100 | S` (R16, 10_state.md R25). -/
def stackSlot (sp : Byte) : Addr := word 0x01 sp

end Sys2Proof
end

