-- ==== Sys2Proof/Machine/Memory.lean ====
section
/-! DEFINITION. The bytes the model holds: internal RAM, cells 0x000 to 0x7FF (20_memory.md R53), and the program ROM
profile, addresses 0x8000 to 0xFFFF (R56), as one list of (address, byte) pairs in canonical form. Every other address
is a device's. -/

namespace Sys2Proof.Machine

/-- Memory: pairs of an address and its byte, addresses strictly rising, no entry equal to what an unlisted address
reads as. -/
abbrev Memory := List Host.Cell

/-- The number of bytes of internal RAM (00_scope.md R11). -/
def ramSize : Nat := 0x800

/-- Where the program ROM profile begins (R56). -/
def romBase : Nat := 0x8000

/-- The size of the CPU's address space (R50). -/
def addressSpace : Nat := 0x10000

/-- What an unlisted address reads as. A RAM cell that nothing has written reads 0x00, `InitRam`'s reference value
(92_eei_decisions.md D21). DESIGN CHOICE (entry 5), unsafe. Anywhere else the model holds no byte: the bus oracle
answers (entry 13), safe. -/
def Memory.unlisted (a : Nat) : Option Byte := if a < ramSize then some 0 else none

/-- The byte held at an address: `none` where the model holds none. -/
def Memory.read : Memory → Nat → Option Byte
  | [], a => Memory.unlisted a
  | (k, b) :: m, a => if k = a then some b else Memory.read m a

/-- Memory without an entry for `a`. -/
def Memory.erase : Memory → Nat → Memory
  | [], _ => []
  | e :: m, a => if e.1 = a then Memory.erase m a else e :: Memory.erase m a

/-- An entry for `a` in front of the higher addresses; none where `b` is what the unlisted address reads as. -/
def Memory.put (m : Memory) (a : Nat) (b : Byte) : Memory :=
  if Memory.unlisted a = some b then Memory.erase m a else (a, b) :: m

/-- Writes a byte, keeping the canonical form. -/
def Memory.write : Memory → Nat → Byte → Memory
  | [], a, b => Memory.put [] a b
  | (k, c) :: m, a, b =>
    if a < k then Memory.put ((k, c) :: m) a b
    else if a = k then Memory.put m a b
    else (k, c) :: Memory.write m a b

/-- The byte of RAM cell `c`. -/
def Memory.ram (m : Memory) (c : Nat) : Byte := (m.read c).getD 0

/-- The cells that `bytes` fill from address `a` on, up to `limit`, in canonical form. -/
def Memory.ofBytes (limit : Nat) : Nat → List Byte → Memory
  | _, [] => []
  | a, b :: bs =>
    if a < limit then
      if Memory.unlisted a = some b then Memory.ofBytes limit (a + 1) bs
      else (a, b) :: Memory.ofBytes limit (a + 1) bs
    else []

/-- The part of memory that is program ROM. -/
def Memory.rom (m : Memory) : Memory := m.filter (fun e => romBase ≤ e.1)

/-- The bytes of the first `n` cells of internal RAM, cell 0 first. -/
def Memory.ramBytes (m : Memory) (n : Nat) : List Byte := (List.range n).map m.ram

/-- The same program ROM with internal RAM set to these bytes from cell 0 on; further cells read 0x00. -/
def Memory.withRam (m : Memory) (bytes : List Byte) : Memory := Memory.ofBytes ramSize 0 bytes ++ m.rom

/-- An address the model may hold a byte for: a RAM cell or a program ROM address. -/
def Memory.holds (a : Nat) : Bool := a < ramSize || (romBase ≤ a && a < addressSpace)

/-- Whether a pair may stand in memory: an address the model may hold, and not the unlisted value. -/
def Memory.entryOk (e : Host.Cell) : Bool := Memory.holds e.1 && Memory.unlisted e.1 != some e.2

/-- The canonical form: addresses strictly rising from `lo`, every entry one that may stand. -/
def Memory.wfFrom : Nat → Memory → Bool
  | _, [] => true
  | lo, e :: m => decide (lo ≤ e.1) && Memory.entryOk e && Memory.wfFrom (e.1 + 1) m

/-- The canonical form of a whole memory. -/
def Memory.wf (m : Memory) : Bool := Memory.wfFrom 0 m

end Sys2Proof.Machine
end

