-- ==== Sys2Proof/Machine/State.lean ====
section
/-! DEFINITION. The machine's state as plain data, the reasons a step can stop, and the state after reset.
INVENTORY.md's '## State' lists every field with its rule and reset value. -/

namespace Sys2Proof.Machine

/-- The six stored status flags (10_state.md R28). There is no stored B (R31, 90_conflicts.md C2). -/
structure Flags where
  /-- Carry. -/
  c : Bool
  /-- Zero. -/
  z : Bool
  /-- Interrupt disable. -/
  i : Bool
  /-- Decimal: stored and pushed, read by no arithmetic (R32). -/
  d : Bool
  /-- Overflow. -/
  v : Bool
  /-- Negative. -/
  n : Bool
deriving DecidableEq, Repr

/-- The direction of a bus access. -/
inductive Dir
  | read | write
deriving DecidableEq, Repr

/-- One CPU bus access: its direction, its address and the byte on the bus (20_memory.md R55, R58). -/
structure BusEvent where
  dir : Dir
  addr : Addr
  byte : Byte
deriving DecidableEq, Repr

/-- A snapshot (60_exceptions.md R290): the CPU state of 10_state.md R21, internal RAM, and the state of the devices,
the cartridge's bank selection among them. -/
structure Snapshot where
  a : Byte
  x : Byte
  y : Byte
  sp : Byte
  pc : Addr
  p : Flags
  cycles : Nat
  nmiPending : Bool
  halted : Bool
  dataBus : Byte
  /-- Internal RAM from cell 0 on. A saved snapshot has all `ramSize` bytes. -/
  ram : List Byte
  /-- The token of the devices (entry 2). -/
  devices : Nat
  /-- Whether the cartridge may have switched banks (20_memory.md R56). -/
  romSwitched : Bool
deriving DecidableEq, Repr

/-- The host's operations that take the place of the CPU's next step (60_exceptions.md R284). -/
inductive HostCall
  /-- `reset()`, the reset button (70_reset_and_hazards.md R302). -/
  | soft
  /-- `power_on()`, with the power-on draws (R300, R301). -/
  | powerOn (d : Draw)
  /-- The load of a snapshot (60_exceptions.md R290). -/
  | load (k : Snapshot)
deriving DecidableEq, Repr

/-- What the host does at one step boundary (60_exceptions.md R283, R284): whether it called `request_nmi()`, the IRQ
level from then on, and whether it resets the CPU or loads a snapshot in place of the next step. Saving a snapshot
changes nothing: `State.save` gives it at any boundary. -/
structure Boundary where
  nmi : Bool
  irq : Bool
  call : Option HostCall
deriving DecidableEq, Repr

structure State where
  /-- A, the accumulator (10_state.md R22). -/
  a : Byte
  /-- X, the first index register (R23). -/
  x : Byte
  /-- Y, the second index register (R24). -/
  y : Byte
  /-- S, the stack pointer: `0x0100 | S` is the next free slot (R25). -/
  sp : Byte
  /-- PC (R26). -/
  pc : Addr
  /-- The status flags (R28). -/
  p : Flags
  /-- The cycle counter, below 2^CycleWidth (R35). -/
  cycles : Nat
  /-- The NMI latch (R36). -/
  nmiPending : Bool
  /-- The IRQ level, an input of the step that the CPU never clears (R37). -/
  irqLine : Bool
  /-- Set by JAM, cleared by reset alone (R38), and given by a snapshot load (60_exceptions.md R290). -/
  halted : Bool
  /-- The byte last placed on the data bus (R39). -/
  dataBus : Byte
  /-- Internal RAM and the program ROM profile (20_memory.md R53, R56). -/
  mem : Memory
  /-- Whether the CPU has written 0x4020 to 0xFFFF since launch (R56). -/
  romSwitched : Bool
  /-- The state of the devices behind the bus, a token for Config's constants (R55, entry 2). -/
  devices : Nat
  /-- Whether the step in progress has written 0x4014 (R62). -/
  dmaWritten : Bool
  /-- Every bus access so far, newest first (R55, R66). -/
  trace : List BusEvent
  /-- The cycle cost the last step returned (R35, 30_encoding.md R80); `none` after JAM, which returns none. -/
  lastCost : Option Nat
  /-- What the host does at the coming step boundaries, oldest first (60_exceptions.md R283, entry 9). -/
  inputs : List Boundary
  /-- The launch's parameters (00_scope.md R10, entry 1). No operation writes this field. -/
  cfg : Config
deriving DecidableEq, Repr

/-- The faults of 60_exceptions.md R270 and R282. Neither is reachable, as the spec says of both. -/
inductive Fault
  /-- Decode found no row for the opcode byte. Raised by `step` alone, where the decoder rejects the fetched bytes; never
  reached, since every byte has a row (R81). Safe: the spec names this fault. -/
  | unimplementedOpcode (op : Byte)
  /-- An address has no route. Raised by nothing, since every address routes (20_memory.md R52). Safe: the spec names
  this fault. -/
  | addressInvariant (addr : Addr)
deriving DecidableEq, Repr

/-- The refusals. -/
inductive Refusal
  /-- An instruction with no meaning yet. Raised by `exec`'s arms alone. Safe: the machine stops. -/
  | notModelled (mnemonic : String)
  /-- `Unofficial(op)` (60_exceptions.md R270): an unofficial opcode under `Refuse`, a JAM under `Nop`, an unstable opcode
  under `Semantic` (47_unofficial.md R231 to R233). Raised by the meanings of unofficial opcodes. Safe: the spec
  itself refuses these. -/
  | unofficial (op : Byte)
deriving DecidableEq, Repr

/-- The outcome of an instruction or a step. -/
abbrev Result := Host.Outcome State Fault Refusal

/-- The devices' state once the console is switched on, from the token 0 (entry 3). -/
def State.resetDevices : Nat := Config.busAfterPowerOn 0

/-- The low byte of the reset vector, as the devices answer with no cartridge placed; an unmapped address reads the data
bus latch, which holds 0x00 before the first access (DESIGN CHOICE, entry 6). -/
def State.resetVectorLow : Byte := (Config.busAnswer State.resetDevices 0xFFFC).getD 0

/-- The high byte of the reset vector, read after the low one. -/
def State.resetVectorHigh : Byte :=
  (Config.busAnswer (Config.busAfterRead State.resetDevices 0xFFFC) 0xFFFD).getD State.resetVectorLow

/-- The machine right after power-on (10_state.md R41, 70_reset_and_hazards.md R300), with the reference parameters and
draws, no cartridge placed and nothing requested. `State.launch` gives it for every cartridge and draw. -/
def State.reset : State :=
  { a := Draw.reference.a, x := Draw.reference.x, y := Draw.reference.y
    sp := 0xFD
    pc := word State.resetVectorHigh State.resetVectorLow
    p := { c := Draw.reference.c, z := Draw.reference.z, i := true, d := Draw.reference.d, v := Draw.reference.v
           n := Draw.reference.n }
    cycles := 7
    nmiPending := false
    irqLine := false
    halted := false
    dataBus := State.resetVectorHigh
    mem := []
    romSwitched := false
    devices := Config.busAfterRead (Config.busAfterRead State.resetDevices 0xFFFC) 0xFFFD
    dmaWritten := false
    trace := [⟨.read, 0xFFFD, State.resetVectorHigh⟩, ⟨.read, 0xFFFC, State.resetVectorLow⟩]
    lastCost := some 7
    inputs := []
    cfg := Config.reference }

end Sys2Proof.Machine
end

