-- ==== Sys2Proof/Machine/Flags.lean ====
section
/-! DEFINITION. The status byte and every flag computation (10_state.md R28 to R33, 43_arith_logic.md R160, R161). -/

namespace Sys2Proof.Machine

/-- `PackP(b)` (R29): the status byte as it is pushed, N V 1 b D I Z C from bit 7 down. -/
def packP (b : Bool) (p : Flags) : Byte :=
  BitVec.ofNat 8 (p.n.toNat * 128 + p.v.toNat * 64 + 32 + b.toNat * 16 + p.d.toNat * 8 + p.i.toNat * 4 + p.z.toNat * 2
    + p.c.toNat)

/-- `UnpackP(v)` (R30): bits 5 and 4 of the pulled byte are discarded. -/
def unpackP (v : Byte) : Flags :=
  { c := v.getLsbD 0, z := v.getLsbD 1, i := v.getLsbD 2, d := v.getLsbD 3, v := v.getLsbD 6, n := v.getLsbD 7 }

/-- `SetNZ(v)` (00_scope.md R16). -/
def State.setNZ (s : State) (v : Byte) : State := { s with p := { s.p with z := v == 0, n := v.getLsbD 7 } }

/-- `C <- b`. -/
def State.setC (s : State) (b : Bool) : State := { s with p := { s.p with c := b } }

/-- `V <- b`. -/
def State.setV (s : State) (b : Bool) : State := { s with p := { s.p with v := b } }

/-- `I <- b`. -/
def State.setI (s : State) (b : Bool) : State := { s with p := { s.p with i := b } }

/-- `D <- b`. -/
def State.setD (s : State) (b : Bool) : State := { s with p := { s.p with d := b } }

/-- The exact 9-bit sum of `AddCore` (R160). -/
def addSum (a m : Byte) (cin : Bool) : Nat := a.toNat + m.toNat + cin.toNat

/-- The sum's low 8 bits (R160). -/
def addResult (a m : Byte) (cin : Bool) : Byte := BitVec.ofNat 8 (addSum a m cin)

/-- The unsigned carry out, bit 8 of the sum (R160). -/
def addCarry (a m : Byte) (cin : Bool) : Bool := (addSum a m cin).testBit 8

/-- The signed overflow: `((a ^ r) & (m ^ r))[7]` (R160). -/
def addOverflow (a m : Byte) (cin : Bool) : Bool :=
  ((a ^^^ addResult a m cin) &&& (m ^^^ addResult a m cin)).getLsbD 7

/-- `A <- AddCore(A, m, C)` (R160, R162): binary whatever D holds. -/
def State.addToA (s : State) (m : Byte) : State :=
  ((({ s with a := addResult s.a m s.p.c } : State).setC (addCarry s.a m s.p.c)).setV
    (addOverflow s.a m s.p.c)).setNZ (addResult s.a m s.p.c)

/-- `A <- AddCore(A, ~m, C)` (R163). -/
def State.subFromA (s : State) (m : Byte) : State := s.addToA (~~~m)

/-- `Compare(r, m)` (R161): C from the unsigned comparison, Z from equality, N from bit 7 of the difference. -/
def State.compare (s : State) (r m : Byte) : State :=
  { s with p := { s.p with c := decide (m.toNat ≤ r.toNat), z := r == m, n := (r - m).getLsbD 7 } }

/-- ROL's result: bit 0 takes the old C (44_incdec_shift.md R188). -/
def rolByte (m : Byte) (c : Bool) : Byte := (m <<< 1) ||| BitVec.ofNat 8 c.toNat

/-- ROR's result: bit 7 takes the old C (R189). -/
def rorByte (m : Byte) (c : Bool) : Byte := BitVec.ofNat 8 (c.toNat * 128) ||| (m >>> 1)

end Sys2Proof.Machine
end

