-- ==== Sys2Proof/Machine/Ops.lean ====
section
/-! DEFINITION. The operations every meaning is written over: the bus, the fetch of a byte, the stack, the end of a
step, and taking and returning from an exception. An operation that reads a byte comes as a pair: `busByte`, `fetched`,
`pulled` say which byte it answers, `busRead`, `fetch8`, `pull` what state it leaves. -/

namespace Sys2Proof.Machine

/-! ## Routing (20_memory.md R51, R52) -/

/-- The targets of a CPU address (R51). -/
inductive Target
  /-- Internal RAM: the cell. -/
  | ram (cell : Nat)
  /-- A PPU register. -/
  | ppu
  /-- The APU and controller registers. -/
  | io
  /-- The disabled APU test registers: open bus. -/
  | openBus
  /-- The cartridge. -/
  | cartridge
deriving DecidableEq, Repr

/-- RAM mirrors every 0x800 bytes: the cell is `addr & 0x07FF` (R52, R53). -/
def ramCell (a : Addr) : Nat := a.toNat % ramSize

/-- Every address resolves to exactly one target (R51, R52). -/
def route (a : Addr) : Target :=
  if a.toNat < 0x2000 then .ram (ramCell a)
  else if a.toNat < 0x4000 then .ppu
  else if a.toNat < 0x4018 then .io
  else if a.toNat < 0x4020 then .openBus
  else .cartridge

/-- Whether an address lies outside internal RAM: then its accesses are the bus's (R55). -/
def isDevice (a : Addr) : Bool := 0x2000 ≤ a.toNat

/-- The address the devices see: the PPU registers mirror every 8 bytes across their window (R52). -/
def deviceAddr (a : Addr) : Addr :=
  if 0x2000 ≤ a.toNat ∧ a.toNat < 0x4000 then 0x2000 + BitVec.ofNat 16 (a.toNat % 8) else a

/-- Whether the ROM profile still holds: no CPU write to 0x4020 to 0xFFFF yet, or mapper id 0 (R56). -/
def State.romHolds (s : State) : Bool := !s.romSwitched || s.cfg.mapperFixed

/-- The program ROM byte at an address, where the profile gives one (R56). -/
def State.romByte (s : State) (a : Addr) : Option Byte :=
  if s.romHolds ∧ romBase ≤ a.toNat then s.mem.read a.toNat else none

/-- What the devices answer; where none does, the data bus keeps its byte (R58, entry 22). -/
def State.deviceByte (s : State) (a : Addr) : Byte := (Config.busAnswer s.devices (deviceAddr a)).getD s.dataBus

/-! ## The bus (00_scope.md R14, 20_memory.md R53, R55, R58) -/

/-- The byte that `MemRead(a, 1)` returns. -/
def State.busByte (s : State) (a : Addr) : Byte :=
  match route a with
  | .ram cell => s.mem.ram cell
  | .ppu => s.deviceByte a
  | .io => s.deviceByte a
  | .openBus => s.dataBus
  | .cartridge => (s.romByte a).getD (s.deviceByte a)

/-- The state `MemRead(a, 1)` leaves: its byte on the data bus, the access recorded, and a device access handed on. -/
def State.busRead (s : State) (a : Addr) : State :=
  { s with
    dataBus := s.busByte a
    devices := if isDevice a then Config.busAfterRead s.devices (deviceAddr a) else s.devices
    trace := ⟨.read, a, s.busByte a⟩ :: s.trace }

/-- The state `MemWrite(a, 1, v)` leaves (R53, R55, R58, R59). A write to 0x4020 and above may switch ROM banks (R56); one
to 0x4014 starts OAM DMA (R62). -/
def State.busWrite (s : State) (a : Addr) (v : Byte) : State :=
  { s with
    mem := if isDevice a then s.mem else s.mem.write (ramCell a) v
    dataBus := v
    romSwitched := s.romSwitched || decide (0x4020 ≤ a.toNat)
    devices := if isDevice a then Config.busAfterWrite s.devices (deviceAddr a) v else s.devices
    dmaWritten := s.dmaWritten || a == 0x4014
    trace := ⟨.write, a, v⟩ :: s.trace }

/-- An access of 40_addressing.md R116's table: performed only with `DummyAccesses = true`, its byte discarded. -/
def State.dummyRead (s : State) (a : Addr) : State := if s.cfg.dummyAccesses then s.busRead a else s

/-- The write of R116's table: an RMW instruction writes the original value back. -/
def State.dummyWrite (s : State) (a : Addr) (v : Byte) : State := if s.cfg.dummyAccesses then s.busWrite a v else s

/-- The 16-bit value of two reads, the low byte first (R14, R60, R61). -/
def State.busWord (s : State) (lo hi : Addr) : Addr := word ((s.busRead lo).busByte hi) (s.busByte lo)

/-- The state those two reads leave. -/
def State.busRead2 (s : State) (lo hi : Addr) : State := (s.busRead lo).busRead hi

/-! ## Fetch (R16) -/

/-- The byte `Fetch8()` returns. -/
def State.fetched (s : State) : Byte := s.busByte s.pc

/-- The state `Fetch8()` leaves: PC advances by 1, modulo 2^16 (10_state.md R27). -/
def State.fetch8 (s : State) : State := { s.busRead s.pc with pc := s.pc + 1 }

/-- The next `n` bytes that `Fetch8` returns. -/
def State.fetchedBytes : Nat → State → List Byte
  | 0, _ => []
  | n + 1, s => s.fetched :: State.fetchedBytes n s.fetch8

/-- The state `n` calls of `Fetch8` leave. -/
def State.fetchN : Nat → State → State
  | 0, s => s
  | n + 1, s => State.fetchN n s.fetch8

/-! ## The stack (R16, 10_state.md R25) -/

/-- `Push(v)`: write the slot, then decrement S, modulo 256. -/
def State.push (s : State) (v : Byte) : State := { s.busWrite (stackSlot s.sp) v with sp := s.sp - 1 }

/-- The byte `Pull()` returns. -/
def State.pulled (s : State) : Byte := s.busByte (stackSlot (s.sp + 1))

/-- The state `Pull()` leaves: S is incremented, modulo 256, then the slot is read. -/
def State.pull (s : State) : State := { s.busRead (stackSlot (s.sp + 1)) with sp := s.sp + 1 }

/-- Pushes PC, the high byte first (20_memory.md R60). -/
def State.pushPc (s : State) : State := (s.push (hiByte s.pc)).push (loByte s.pc)

/-! ## The end of a step (30_encoding.md R80) -/

/-- `BusStall`: the DMA stall of a step that wrote 0x4014, else 0 (20_memory.md R62, entry 11). -/
def State.busStall (s : State) : Nat := if s.dmaWritten then Config.dmaStall s.devices else 0

/-- The cost a step returns. -/
def State.stepCost (s : State) (cost : Nat) : Nat := cost + s.busStall

/-- Adds the step's cost to `cycles`, modulo 2^CycleWidth, and returns it (R80); then the devices catch up with it before
the next step (20_memory.md R70, entry 12). -/
def State.finish (s : State) (cost : Nat) : State :=
  { s with
    cycles := (s.cycles + s.stepCost cost) % 2 ^ s.cfg.cycleWidth
    lastCost := some (s.stepCost cost)
    devices := Config.busAfterCycles s.devices (s.stepCost cost)
    dmaWritten := false }

/-! ## Taking and returning from an exception -/

/-- The vectors (20_memory.md R64). -/
def nmiVector : Addr := 0xFFFA
def resetVector : Addr := 0xFFFC
def irqVector : Addr := 0xFFFE

/-- `PC <- MemRead16(vec)` (R14: the low byte first, through the bus). -/
def State.jumpThrough (s : State) (vec : Addr) : State :=
  { s.busRead2 vec (vec + 1) with pc := s.busWord vec (vec + 1) }

/-- Exception entry, shared by BRK, IRQ and NMI (45_control.md R204, 60_exceptions.md R274): PC and the status byte, with
break bit `brk`, go to the stack, I becomes `i`, and control goes to the address the vector holds. D, A, X and Y keep
their values. -/
def State.enterException (s : State) (brk : Bool) (i : Bool) (vec : Addr) : State :=
  ((s.pushPc.push (packP brk s.p)).setI i).jumpThrough vec

/-- The interrupts a step boundary can take (60_exceptions.md R271). -/
inductive Interrupt
  | nmi | irq
deriving DecidableEq, Repr

/-- What entry does to I (R274, R275): IRQ sets it; NMI sets or clears it by `NmiSetsI`. -/
def Interrupt.entryI (k : Interrupt) (cfg : Config) : Bool :=
  match k with
  | .irq => true
  | .nmi => cfg.nmiSetsI

/-- The vector of an interrupt (R64, R274). -/
def Interrupt.vector : Interrupt → Addr
  | .nmi => nmiVector
  | .irq => irqVector

/-- NMI dispatch clears the latch; IRQ dispatch acknowledges nothing (R274, R276). -/
def State.acknowledge (s : State) : Interrupt → State
  | .nmi => { s with nmiPending := false }
  | .irq => s

/-- `Dispatch(kind)` (R274): a whole step of 7 cycles. -/
def State.dispatch (s : State) (k : Interrupt) : State :=
  ((((s.dummyRead s.pc).dummyRead s.pc).enterException false (k.entryI s.cfg) k.vector).acknowledge k).finish 7

/-- The status byte an RTI pulls, then the return address, low byte first (45_control.md R203, 60_exceptions.md R279): no
bit 4 or 5 is kept, and nothing is added to the address. -/
def State.returnFromException (s : State) : State :=
  { s.pull.pull.pull with
    p := unpackP s.pulled
    pc := word s.pull.pull.pulled s.pull.pulled }

end Sys2Proof.Machine
end

