-- ==== Sys2Proof/Syntax.lean ====
section
/-! DEFINITION. The instructions: one constructor per row of spec/opcode_table.json, which maps each of the 256 opcode
bytes to its mnemonic and addressing mode (30_encoding.md R84), and what a row of that table says. An operand is what
R86 assembles: a byte `b` (immediate, zero-page address or pointer, relative offset) or an address `w`. -/

namespace Sys2Proof

/-- The addressing modes (40_addressing.md R101 to R113). -/
inductive AddrMode
  | implied | accumulator | immediate | zeroPage | zeroPageX | zeroPageY | absolute | absoluteX | absoluteY
  | indirect | indexedIndirect | indirectIndexed | relative
deriving DecidableEq, Repr

/-- The access classes (40_addressing.md R115). -/
inductive Access
  | none | read | write | rmw | stack | jump | branch
deriving DecidableEq, Repr

/-- The classes of opcodes (47_unofficial.md R233). -/
inductive OpClass
  | official | stable | unstable | jam
deriving DecidableEq, Repr

/-- What spec/opcode_table.json says of one opcode byte; `cycles` is `none` for JAM, which has no cost (R308). -/
structure Row where
  mnemonic : String
  mode : AddrMode
  cycles : Option Nat
  pagePenalty : Bool
  access : Access
  cls : OpClass
deriving DecidableEq, Repr

/-- The instructions: those with an operand in opcode order, then those without (Lean's compiler wants a constructor
with a field among the first 244). A constructor is named after the mnemonic and, where a mnemonic has several
rows, its addressing mode (`Imm`, `Zp`, `ZpX`, `ZpY`, `Abs`, `AbsX`, `AbsY`, `Acc`, `Ind`, `IndX` for (zero page,X),
`IndY` for (zero page),Y) or, for the unofficial NOP, JAM, ANC and SBC, its opcode byte. -/
inductive Instr
  /-- 01: ORA (zero page,X) (R165). -/
  | oraIndX (b : Byte)
  /-- 03: *SLO (zero page,X) (R235). -/
  | sloIndX (b : Byte)
  /-- 04: *NOP zero page (R234). -/
  | nop04 (b : Byte)
  /-- 05: ORA zero page (R165). -/
  | oraZp (b : Byte)
  /-- 06: ASL zero page (R186). -/
  | aslZp (b : Byte)
  /-- 07: *SLO zero page (R235). -/
  | sloZp (b : Byte)
  /-- 09: ORA immediate (R165). -/
  | oraImm (b : Byte)
  /-- 0B: *ANC immediate (R243). -/
  | anc0B (b : Byte)
  /-- 0C: *NOP absolute (R234). -/
  | nop0C (w : Addr)
  /-- 0D: ORA absolute (R165). -/
  | oraAbs (w : Addr)
  /-- 0E: ASL absolute (R186). -/
  | aslAbs (w : Addr)
  /-- 0F: *SLO absolute (R235). -/
  | sloAbs (w : Addr)
  /-- 10: BPL relative (R211). -/
  | bpl (b : Byte)
  /-- 11: ORA (zero page),Y (R165). -/
  | oraIndY (b : Byte)
  /-- 13: *SLO (zero page),Y (R235). -/
  | sloIndY (b : Byte)
  /-- 14: *NOP zero page,X (R234). -/
  | nop14 (b : Byte)
  /-- 15: ORA zero page,X (R165). -/
  | oraZpX (b : Byte)
  /-- 16: ASL zero page,X (R186). -/
  | aslZpX (b : Byte)
  /-- 17: *SLO zero page,X (R235). -/
  | sloZpX (b : Byte)
  /-- 19: ORA absolute,Y (R165). -/
  | oraAbsY (w : Addr)
  /-- 1B: *SLO absolute,Y (R235). -/
  | sloAbsY (w : Addr)
  /-- 1C: *NOP absolute,X (R234). -/
  | nop1C (w : Addr)
  /-- 1D: ORA absolute,X (R165). -/
  | oraAbsX (w : Addr)
  /-- 1E: ASL absolute,X (R186). -/
  | aslAbsX (w : Addr)
  /-- 1F: *SLO absolute,X (R235). -/
  | sloAbsX (w : Addr)
  /-- 20: JSR absolute (R201). -/
  | jsr (w : Addr)
  /-- 21: AND (zero page,X) (R164). -/
  | andIndX (b : Byte)
  /-- 23: *RLA (zero page,X) (R236). -/
  | rlaIndX (b : Byte)
  /-- 24: BIT zero page (R170). -/
  | bitZp (b : Byte)
  /-- 25: AND zero page (R164). -/
  | andZp (b : Byte)
  /-- 26: ROL zero page (R188). -/
  | rolZp (b : Byte)
  /-- 27: *RLA zero page (R236). -/
  | rlaZp (b : Byte)
  /-- 29: AND immediate (R164). -/
  | andImm (b : Byte)
  /-- 2B: *ANC immediate (R243). -/
  | anc2B (b : Byte)
  /-- 2C: BIT absolute (R170). -/
  | bitAbs (w : Addr)
  /-- 2D: AND absolute (R164). -/
  | andAbs (w : Addr)
  /-- 2E: ROL absolute (R188). -/
  | rolAbs (w : Addr)
  /-- 2F: *RLA absolute (R236). -/
  | rlaAbs (w : Addr)
  /-- 30: BMI relative (R210). -/
  | bmi (b : Byte)
  /-- 31: AND (zero page),Y (R164). -/
  | andIndY (b : Byte)
  /-- 33: *RLA (zero page),Y (R236). -/
  | rlaIndY (b : Byte)
  /-- 34: *NOP zero page,X (R234). -/
  | nop34 (b : Byte)
  /-- 35: AND zero page,X (R164). -/
  | andZpX (b : Byte)
  /-- 36: ROL zero page,X (R188). -/
  | rolZpX (b : Byte)
  /-- 37: *RLA zero page,X (R236). -/
  | rlaZpX (b : Byte)
  /-- 39: AND absolute,Y (R164). -/
  | andAbsY (w : Addr)
  /-- 3B: *RLA absolute,Y (R236). -/
  | rlaAbsY (w : Addr)
  /-- 3C: *NOP absolute,X (R234). -/
  | nop3C (w : Addr)
  /-- 3D: AND absolute,X (R164). -/
  | andAbsX (w : Addr)
  /-- 3E: ROL absolute,X (R188). -/
  | rolAbsX (w : Addr)
  /-- 3F: *RLA absolute,X (R236). -/
  | rlaAbsX (w : Addr)
  /-- 41: EOR (zero page,X) (R166). -/
  | eorIndX (b : Byte)
  /-- 43: *SRE (zero page,X) (R237). -/
  | sreIndX (b : Byte)
  /-- 44: *NOP zero page (R234). -/
  | nop44 (b : Byte)
  /-- 45: EOR zero page (R166). -/
  | eorZp (b : Byte)
  /-- 46: LSR zero page (R187). -/
  | lsrZp (b : Byte)
  /-- 47: *SRE zero page (R237). -/
  | sreZp (b : Byte)
  /-- 49: EOR immediate (R166). -/
  | eorImm (b : Byte)
  /-- 4B: *ALR immediate (R244). -/
  | alr (b : Byte)
  /-- 4C: JMP absolute (R200). -/
  | jmpAbs (w : Addr)
  /-- 4D: EOR absolute (R166). -/
  | eorAbs (w : Addr)
  /-- 4E: LSR absolute (R187). -/
  | lsrAbs (w : Addr)
  /-- 4F: *SRE absolute (R237). -/
  | sreAbs (w : Addr)
  /-- 50: BVC relative (R212). -/
  | bvc (b : Byte)
  /-- 51: EOR (zero page),Y (R166). -/
  | eorIndY (b : Byte)
  /-- 53: *SRE (zero page),Y (R237). -/
  | sreIndY (b : Byte)
  /-- 54: *NOP zero page,X (R234). -/
  | nop54 (b : Byte)
  /-- 55: EOR zero page,X (R166). -/
  | eorZpX (b : Byte)
  /-- 56: LSR zero page,X (R187). -/
  | lsrZpX (b : Byte)
  /-- 57: *SRE zero page,X (R237). -/
  | sreZpX (b : Byte)
  /-- 59: EOR absolute,Y (R166). -/
  | eorAbsY (w : Addr)
  /-- 5B: *SRE absolute,Y (R237). -/
  | sreAbsY (w : Addr)
  /-- 5C: *NOP absolute,X (R234). -/
  | nop5C (w : Addr)
  /-- 5D: EOR absolute,X (R166). -/
  | eorAbsX (w : Addr)
  /-- 5E: LSR absolute,X (R187). -/
  | lsrAbsX (w : Addr)
  /-- 5F: *SRE absolute,X (R237). -/
  | sreAbsX (w : Addr)
  /-- 61: ADC (zero page,X) (R162). -/
  | adcIndX (b : Byte)
  /-- 63: *RRA (zero page,X) (R238). -/
  | rraIndX (b : Byte)
  /-- 64: *NOP zero page (R234). -/
  | nop64 (b : Byte)
  /-- 65: ADC zero page (R162). -/
  | adcZp (b : Byte)
  /-- 66: ROR zero page (R189). -/
  | rorZp (b : Byte)
  /-- 67: *RRA zero page (R238). -/
  | rraZp (b : Byte)
  /-- 69: ADC immediate (R162). -/
  | adcImm (b : Byte)
  /-- 6B: *ARR immediate (R245). -/
  | arr (b : Byte)
  /-- 6C: JMP indirect (R200). -/
  | jmpInd (w : Addr)
  /-- 6D: ADC absolute (R162). -/
  | adcAbs (w : Addr)
  /-- 6E: ROR absolute (R189). -/
  | rorAbs (w : Addr)
  /-- 6F: *RRA absolute (R238). -/
  | rraAbs (w : Addr)
  /-- 70: BVS relative (R213). -/
  | bvs (b : Byte)
  /-- 71: ADC (zero page),Y (R162). -/
  | adcIndY (b : Byte)
  /-- 73: *RRA (zero page),Y (R238). -/
  | rraIndY (b : Byte)
  /-- 74: *NOP zero page,X (R234). -/
  | nop74 (b : Byte)
  /-- 75: ADC zero page,X (R162). -/
  | adcZpX (b : Byte)
  /-- 76: ROR zero page,X (R189). -/
  | rorZpX (b : Byte)
  /-- 77: *RRA zero page,X (R238). -/
  | rraZpX (b : Byte)
  /-- 79: ADC absolute,Y (R162). -/
  | adcAbsY (w : Addr)
  /-- 7B: *RRA absolute,Y (R238). -/
  | rraAbsY (w : Addr)
  /-- 7C: *NOP absolute,X (R234). -/
  | nop7C (w : Addr)
  /-- 7D: ADC absolute,X (R162). -/
  | adcAbsX (w : Addr)
  /-- 7E: ROR absolute,X (R189). -/
  | rorAbsX (w : Addr)
  /-- 7F: *RRA absolute,X (R238). -/
  | rraAbsX (w : Addr)
  /-- 80: *NOP immediate (R234). -/
  | nop80 (b : Byte)
  /-- 81: STA (zero page,X) (R123). -/
  | staIndX (b : Byte)
  /-- 82: *NOP immediate (R234). -/
  | nop82 (b : Byte)
  /-- 83: *SAX (zero page,X) (R239). -/
  | saxIndX (b : Byte)
  /-- 84: STY zero page (R125). -/
  | styZp (b : Byte)
  /-- 85: STA zero page (R123). -/
  | staZp (b : Byte)
  /-- 86: STX zero page (R124). -/
  | stxZp (b : Byte)
  /-- 87: *SAX zero page (R239). -/
  | saxZp (b : Byte)
  /-- 89: *NOP immediate (R234). -/
  | nop89 (b : Byte)
  /-- 8B: *ANE immediate (R249). -/
  | ane (b : Byte)
  /-- 8C: STY absolute (R125). -/
  | styAbs (w : Addr)
  /-- 8D: STA absolute (R123). -/
  | staAbs (w : Addr)
  /-- 8E: STX absolute (R124). -/
  | stxAbs (w : Addr)
  /-- 8F: *SAX absolute (R239). -/
  | saxAbs (w : Addr)
  /-- 90: BCC relative (R206). -/
  | bcc (b : Byte)
  /-- 91: STA (zero page),Y (R123). -/
  | staIndY (b : Byte)
  /-- 93: *SHA (zero page),Y (R251). -/
  | shaIndY (b : Byte)
  /-- 94: STY zero page,X (R125). -/
  | styZpX (b : Byte)
  /-- 95: STA zero page,X (R123). -/
  | staZpX (b : Byte)
  /-- 96: STX zero page,Y (R124). -/
  | stxZpY (b : Byte)
  /-- 97: *SAX zero page,Y (R239). -/
  | saxZpY (b : Byte)
  /-- 99: STA absolute,Y (R123). -/
  | staAbsY (w : Addr)
  /-- 9B: *TAS absolute,Y (R255). -/
  | tas (w : Addr)
  /-- 9C: *SHY absolute,X (R253). -/
  | shy (w : Addr)
  /-- 9D: STA absolute,X (R123). -/
  | staAbsX (w : Addr)
  /-- 9E: *SHX absolute,Y (R252). -/
  | shx (w : Addr)
  /-- 9F: *SHA absolute,Y (R251). -/
  | shaAbsY (w : Addr)
  /-- A0: LDY immediate (R122). -/
  | ldyImm (b : Byte)
  /-- A1: LDA (zero page,X) (R120). -/
  | ldaIndX (b : Byte)
  /-- A2: LDX immediate (R121). -/
  | ldxImm (b : Byte)
  /-- A3: *LAX (zero page,X) (R240). -/
  | laxIndX (b : Byte)
  /-- A4: LDY zero page (R122). -/
  | ldyZp (b : Byte)
  /-- A5: LDA zero page (R120). -/
  | ldaZp (b : Byte)
  /-- A6: LDX zero page (R121). -/
  | ldxZp (b : Byte)
  /-- A7: *LAX zero page (R240). -/
  | laxZp (b : Byte)
  /-- A9: LDA immediate (R120). -/
  | ldaImm (b : Byte)
  /-- AB: *LXA immediate (R250). -/
  | lxa (b : Byte)
  /-- AC: LDY absolute (R122). -/
  | ldyAbs (w : Addr)
  /-- AD: LDA absolute (R120). -/
  | ldaAbs (w : Addr)
  /-- AE: LDX absolute (R121). -/
  | ldxAbs (w : Addr)
  /-- AF: *LAX absolute (R240). -/
  | laxAbs (w : Addr)
  /-- B0: BCS relative (R207). -/
  | bcs (b : Byte)
  /-- B1: LDA (zero page),Y (R120). -/
  | ldaIndY (b : Byte)
  /-- B3: *LAX (zero page),Y (R240). -/
  | laxIndY (b : Byte)
  /-- B4: LDY zero page,X (R122). -/
  | ldyZpX (b : Byte)
  /-- B5: LDA zero page,X (R120). -/
  | ldaZpX (b : Byte)
  /-- B6: LDX zero page,Y (R121). -/
  | ldxZpY (b : Byte)
  /-- B7: *LAX zero page,Y (R240). -/
  | laxZpY (b : Byte)
  /-- B9: LDA absolute,Y (R120). -/
  | ldaAbsY (w : Addr)
  /-- BB: *LAS absolute,Y (R248). -/
  | las (w : Addr)
  /-- BC: LDY absolute,X (R122). -/
  | ldyAbsX (w : Addr)
  /-- BD: LDA absolute,X (R120). -/
  | ldaAbsX (w : Addr)
  /-- BE: LDX absolute,Y (R121). -/
  | ldxAbsY (w : Addr)
  /-- BF: *LAX absolute,Y (R240). -/
  | laxAbsY (w : Addr)
  /-- C0: CPY immediate (R169). -/
  | cpyImm (b : Byte)
  /-- C1: CMP (zero page,X) (R167). -/
  | cmpIndX (b : Byte)
  /-- C2: *NOP immediate (R234). -/
  | nopC2 (b : Byte)
  /-- C3: *DCP (zero page,X) (R241). -/
  | dcpIndX (b : Byte)
  /-- C4: CPY zero page (R169). -/
  | cpyZp (b : Byte)
  /-- C5: CMP zero page (R167). -/
  | cmpZp (b : Byte)
  /-- C6: DEC zero page (R181). -/
  | decZp (b : Byte)
  /-- C7: *DCP zero page (R241). -/
  | dcpZp (b : Byte)
  /-- C9: CMP immediate (R167). -/
  | cmpImm (b : Byte)
  /-- CB: *AXS immediate (R246). -/
  | axs (b : Byte)
  /-- CC: CPY absolute (R169). -/
  | cpyAbs (w : Addr)
  /-- CD: CMP absolute (R167). -/
  | cmpAbs (w : Addr)
  /-- CE: DEC absolute (R181). -/
  | decAbs (w : Addr)
  /-- CF: *DCP absolute (R241). -/
  | dcpAbs (w : Addr)
  /-- D0: BNE relative (R209). -/
  | bne (b : Byte)
  /-- D1: CMP (zero page),Y (R167). -/
  | cmpIndY (b : Byte)
  /-- D3: *DCP (zero page),Y (R241). -/
  | dcpIndY (b : Byte)
  /-- D4: *NOP zero page,X (R234). -/
  | nopD4 (b : Byte)
  /-- D5: CMP zero page,X (R167). -/
  | cmpZpX (b : Byte)
  /-- D6: DEC zero page,X (R181). -/
  | decZpX (b : Byte)
  /-- D7: *DCP zero page,X (R241). -/
  | dcpZpX (b : Byte)
  /-- D9: CMP absolute,Y (R167). -/
  | cmpAbsY (w : Addr)
  /-- DB: *DCP absolute,Y (R241). -/
  | dcpAbsY (w : Addr)
  /-- DC: *NOP absolute,X (R234). -/
  | nopDC (w : Addr)
  /-- DD: CMP absolute,X (R167). -/
  | cmpAbsX (w : Addr)
  /-- DE: DEC absolute,X (R181). -/
  | decAbsX (w : Addr)
  /-- DF: *DCP absolute,X (R241). -/
  | dcpAbsX (w : Addr)
  /-- E0: CPX immediate (R168). -/
  | cpxImm (b : Byte)
  /-- E1: SBC (zero page,X) (R163). -/
  | sbcIndX (b : Byte)
  /-- E2: *NOP immediate (R234). -/
  | nopE2 (b : Byte)
  /-- E3: *ISC (zero page,X) (R242). -/
  | iscIndX (b : Byte)
  /-- E4: CPX zero page (R168). -/
  | cpxZp (b : Byte)
  /-- E5: SBC zero page (R163). -/
  | sbcZp (b : Byte)
  /-- E6: INC zero page (R180). -/
  | incZp (b : Byte)
  /-- E7: *ISC zero page (R242). -/
  | iscZp (b : Byte)
  /-- E9: SBC immediate (R163). -/
  | sbcImm (b : Byte)
  /-- EB: *SBC immediate (R247). -/
  | sbcEB (b : Byte)
  /-- EC: CPX absolute (R168). -/
  | cpxAbs (w : Addr)
  /-- ED: SBC absolute (R163). -/
  | sbcAbs (w : Addr)
  /-- EE: INC absolute (R180). -/
  | incAbs (w : Addr)
  /-- EF: *ISC absolute (R242). -/
  | iscAbs (w : Addr)
  /-- F0: BEQ relative (R208). -/
  | beq (b : Byte)
  /-- F1: SBC (zero page),Y (R163). -/
  | sbcIndY (b : Byte)
  /-- F3: *ISC (zero page),Y (R242). -/
  | iscIndY (b : Byte)
  /-- F4: *NOP zero page,X (R234). -/
  | nopF4 (b : Byte)
  /-- F5: SBC zero page,X (R163). -/
  | sbcZpX (b : Byte)
  /-- F6: INC zero page,X (R180). -/
  | incZpX (b : Byte)
  /-- F7: *ISC zero page,X (R242). -/
  | iscZpX (b : Byte)
  /-- F9: SBC absolute,Y (R163). -/
  | sbcAbsY (w : Addr)
  /-- FB: *ISC absolute,Y (R242). -/
  | iscAbsY (w : Addr)
  /-- FC: *NOP absolute,X (R234). -/
  | nopFC (w : Addr)
  /-- FD: SBC absolute,X (R163). -/
  | sbcAbsX (w : Addr)
  /-- FE: INC absolute,X (R180). -/
  | incAbsX (w : Addr)
  /-- FF: *ISC absolute,X (R242). -/
  | iscAbsX (w : Addr)
  /-- 00: BRK implied (R204). -/
  | brk
  /-- 02: *JAM implied (R254). -/
  | jam02
  /-- 08: PHP implied (R137). -/
  | php
  /-- 0A: ASL accumulator (R186). -/
  | aslAcc
  /-- 12: *JAM implied (R254). -/
  | jam12
  /-- 18: CLC implied (R220). -/
  | clc
  /-- 1A: *NOP implied (R234). -/
  | nop1A
  /-- 22: *JAM implied (R254). -/
  | jam22
  /-- 28: PLP implied (R139). -/
  | plp
  /-- 2A: ROL accumulator (R188). -/
  | rolAcc
  /-- 32: *JAM implied (R254). -/
  | jam32
  /-- 38: SEC implied (R221). -/
  | sec
  /-- 3A: *NOP implied (R234). -/
  | nop3A
  /-- 40: RTI implied (R203). -/
  | rti
  /-- 42: *JAM implied (R254). -/
  | jam42
  /-- 48: PHA implied (R136). -/
  | pha
  /-- 4A: LSR accumulator (R187). -/
  | lsrAcc
  /-- 52: *JAM implied (R254). -/
  | jam52
  /-- 58: CLI implied (R222). -/
  | cli
  /-- 5A: *NOP implied (R234). -/
  | nop5A
  /-- 60: RTS implied (R202). -/
  | rts
  /-- 62: *JAM implied (R254). -/
  | jam62
  /-- 68: PLA implied (R138). -/
  | pla
  /-- 6A: ROR accumulator (R189). -/
  | rorAcc
  /-- 72: *JAM implied (R254). -/
  | jam72
  /-- 78: SEI implied (R223). -/
  | sei
  /-- 7A: *NOP implied (R234). -/
  | nop7A
  /-- 88: DEY implied (R185). -/
  | dey
  /-- 8A: TXA implied (R132). -/
  | txa
  /-- 92: *JAM implied (R254). -/
  | jam92
  /-- 98: TYA implied (R133). -/
  | tya
  /-- 9A: TXS implied (R135). -/
  | txs
  /-- A8: TAY implied (R131). -/
  | tay
  /-- AA: TAX implied (R130). -/
  | tax
  /-- B2: *JAM implied (R254). -/
  | jamB2
  /-- B8: CLV implied (R226). -/
  | clv
  /-- BA: TSX implied (R134). -/
  | tsx
  /-- C8: INY implied (R183). -/
  | iny
  /-- CA: DEX implied (R184). -/
  | dex
  /-- D2: *JAM implied (R254). -/
  | jamD2
  /-- D8: CLD implied (R224). -/
  | cld
  /-- DA: *NOP implied (R234). -/
  | nopDA
  /-- E8: INX implied (R182). -/
  | inx
  /-- EA: NOP implied (R227). -/
  | nop
  /-- F2: *JAM implied (R254). -/
  | jamF2
  /-- F8: SED implied (R225). -/
  | sed
  /-- FA: *NOP implied (R234). -/
  | nopFA
deriving DecidableEq, Repr

end Sys2Proof
end

