-- ==== Sys2Proof/Machine/Operands.lean ====
section
/-! DEFINITION. The addressing modes (40_addressing.md R100 to R113) and the shapes of instruction that the access
classes give (R115): each performs the class's accesses in order, the dummy accesses of R116 among them, and ends the
step with its cost (R114, 30_encoding.md R80). The operand bytes are already fetched: PC is past the instruction. -/

namespace Sys2Proof.Machine

/-- An addressing mode with its operand bytes, for the modes that yield a value or a place (R102 to R111). -/
inductive Mode
  | acc
  | imm (b : Byte)
  | zp (b : Byte)
  | zpX (b : Byte)
  | zpY (b : Byte)
  | abs (w : Addr)
  | absX (w : Addr)
  | absY (w : Addr)
  | indX (b : Byte)
  | indY (b : Byte)
deriving DecidableEq, Repr

/-- The operands `Load` and `Store` work on (R100). -/
inductive Operand
  | acc
  | imm (v : Byte)
  | mem (ea : Addr) (crossed : Bool)
deriving DecidableEq, Repr

/-- A located operand, and the state after the accesses that locating it took. -/
structure Located where
  opd : Operand
  st : State

/-- Indexing a 16-bit base (R109 to R111), with R116's dummy read: for a read only where the page is crossed, for a
write or a read-modify-write always. -/
def locateIndexed (cls : Access) (base : Addr) (index : Byte) (s : State) : Located :=
  let ea := base + zext16 index
  { opd := .mem ea (pageCross base ea)
    st := if cls = .read ∧ pageCross base ea = false then s else s.dummyRead (inPageOf base ea) }

/-- Locates the operand of an addressing mode (R102 to R111). The zero-page sums and both bytes of a zero-page pointer
wrap inside the zero page (R105, R106, R108, R109). -/
def locate (cls : Access) (m : Mode) (s : State) : Located :=
  match m with
  | .acc => { opd := .acc, st := s.dummyRead s.pc }
  | .imm b => { opd := .imm b, st := s }
  | .zp b => { opd := .mem (zext16 b) false, st := s }
  | .zpX b => { opd := .mem (zext16 (b + s.x)) false, st := s.dummyRead (zext16 b) }
  | .zpY b => { opd := .mem (zext16 (b + s.y)) false, st := s.dummyRead (zext16 b) }
  | .abs w => { opd := .mem w false, st := s }
  | .absX w => locateIndexed cls w s.x s
  | .absY w => locateIndexed cls w s.y s
  | .indX b =>
    let s1 := s.dummyRead (zext16 b)
    let lo := zext16 (b + s.x)
    let hi := zext16 (b + s.x + 1)
    { opd := .mem (s1.busWord lo hi) false, st := s1.busRead2 lo hi }
  | .indY b =>
    let lo := zext16 b
    let hi := zext16 (b + 1)
    locateIndexed cls (s.busWord lo hi) s.y (s.busRead2 lo hi)

/-- The byte `Load(opd)` returns (R100). -/
def Operand.value (o : Operand) (s : State) : Byte :=
  match o with
  | .acc => s.a
  | .imm v => v
  | .mem ea _ => s.busByte ea

/-- The state `Load(opd)` leaves. -/
def Operand.loaded (o : Operand) (s : State) : State :=
  match o with
  | .acc => s
  | .imm _ => s
  | .mem ea _ => s.busRead ea

/-- The state `Store(opd, v)` leaves (R100). No instruction stores to an immediate. -/
def Operand.store (o : Operand) (v : Byte) (s : State) : State :=
  match o with
  | .acc => { s with a := v }
  | .imm _ => s
  | .mem ea _ => s.busWrite ea v

/-- R116: between its load and its store a read-modify-write writes the original value back. -/
def Operand.writeBack (o : Operand) (v : Byte) (s : State) : State :=
  match o with
  | .acc => s
  | .imm _ => s
  | .mem ea _ => s.dummyWrite ea v

/-- The page-cross penalty of a read (R114). -/
def Operand.penalty : Operand → Nat
  | .mem _ true => 1
  | .mem _ false => 0
  | .imm _ => 0
  | .acc => 0

/-- Class `read`: one load, then what the instruction does with the byte. -/
def readOp (m : Mode) (cost : Nat) (f : State → Byte → State) (s : State) : State :=
  let l := locate .read m s
  (f (l.opd.loaded l.st) (l.opd.value l.st)).finish (cost + l.opd.penalty)

/-- Class `write`: one store, no load and no penalty. -/
def writeOp (m : Mode) (cost : Nat) (v : Byte) (s : State) : State :=
  let l := locate .write m s
  (l.opd.store v l.st).finish cost

/-- Class `rmw`, and the accumulator forms: one load, one store of `f` of the byte to the same place, then `g` of the
state, the old byte and the new one. -/
def rmwOp (m : Mode) (cost : Nat) (f : Byte → Byte) (g : State → Byte → Byte → State) (s : State) : State :=
  let l := locate .rmw m s
  let v := l.opd.value l.st
  (g (l.opd.store (f v) (l.opd.writeBack v (l.opd.loaded l.st))) v (f v)).finish cost

/-- Class `none` in implied mode. -/
def impliedOp (cost : Nat) (f : State → State) (s : State) : State := (f (s.dummyRead s.pc)).finish cost

/-- The address of the branch's target (45_control.md R205): from the next instruction, modulo 2^16. -/
def branchTarget (s : State) (off : Byte) : Addr := s.pc + sext16 off

/-- A taken branch (R205), with R116's dummy reads; `PC` is the address of the next instruction. -/
def takeBranch (off : Byte) (s : State) : State :=
  let target := branchTarget s off
  let s1 := s.dummyRead s.pc
  if pageCross s.pc target then
    ({ s1.dummyRead (inPageOf s.pc target) with pc := target } : State).finish 4
  else ({ s1 with pc := target } : State).finish 3

/-- `Branch(cond, off)` (R205): 2 cycles not taken, 1 more taken, 2 more taken across a page. -/
def branchOp (cond : Bool) (off : Byte) (s : State) : State := if cond then takeBranch off s else s.finish 2

end Sys2Proof.Machine
end

