-- ==== Sys2Proof/Machine/ArithLogic.lean ====
section
/-! DEFINITION. Arithmetic, logic, compare and bit test (43_arith_logic.md R160 to R170). -/

namespace Sys2Proof.Machine

/-- `A <- AddCore(A, m, C)` (R162). -/
def adc (m : Mode) (cost : Nat) : State → State := readOp m cost State.addToA

/-- `A <- AddCore(A, ~m, C)` (R163). -/
def sbc (m : Mode) (cost : Nat) : State → State := readOp m cost State.subFromA

/-- `A <- A & m; SetNZ(A)` (R164). -/
def andA (m : Mode) (cost : Nat) : State → State :=
  readOp m cost (fun s v => ({ s with a := s.a &&& v } : State).setNZ (s.a &&& v))

/-- `A <- A | m; SetNZ(A)` (R165). -/
def ora (m : Mode) (cost : Nat) : State → State :=
  readOp m cost (fun s v => ({ s with a := s.a ||| v } : State).setNZ (s.a ||| v))

/-- `A <- A ^ m; SetNZ(A)` (R166). -/
def eor (m : Mode) (cost : Nat) : State → State :=
  readOp m cost (fun s v => ({ s with a := s.a ^^^ v } : State).setNZ (s.a ^^^ v))

/-- `Compare(A, m)` (R167). -/
def cmp (m : Mode) (cost : Nat) : State → State := readOp m cost (fun s v => s.compare s.a v)

/-- `Compare(X, m)` (R168). -/
def cpx (m : Mode) (cost : Nat) : State → State := readOp m cost (fun s v => s.compare s.x v)

/-- `Compare(Y, m)` (R169). -/
def cpy (m : Mode) (cost : Nat) : State → State := readOp m cost (fun s v => s.compare s.y v)

/-- `Z <- ((A & m) = 0); N <- m[7]; V <- m[6]` (R170). -/
def bit (m : Mode) (cost : Nat) : State → State :=
  readOp m cost (fun s v => { s with p := { s.p with z := (s.a &&& v) == 0, n := v.getLsbD 7, v := v.getLsbD 6 } })

/-- ADC ($nn,X) (61, 6 cycles; R162). -/
def execAdcIndX (b : Byte) (s : State) : Result := .next (adc (.indX b) 6 s)

/-- ADC $nn (65, 3 cycles; R162). -/
def execAdcZp (b : Byte) (s : State) : Result := .next (adc (.zp b) 3 s)

/-- ADC #$nn (69, 2 cycles; R162). -/
def execAdcImm (b : Byte) (s : State) : Result := .next (adc (.imm b) 2 s)

/-- ADC $nnnn (6D, 4 cycles; R162). -/
def execAdcAbs (w : Addr) (s : State) : Result := .next (adc (.abs w) 4 s)

/-- ADC ($nn),Y (71, 5+ cycles; R162). -/
def execAdcIndY (b : Byte) (s : State) : Result := .next (adc (.indY b) 5 s)

/-- ADC $nn,X (75, 4 cycles; R162). -/
def execAdcZpX (b : Byte) (s : State) : Result := .next (adc (.zpX b) 4 s)

/-- ADC $nnnn,Y (79, 4+ cycles; R162). -/
def execAdcAbsY (w : Addr) (s : State) : Result := .next (adc (.absY w) 4 s)

/-- ADC $nnnn,X (7D, 4+ cycles; R162). -/
def execAdcAbsX (w : Addr) (s : State) : Result := .next (adc (.absX w) 4 s)

/-- SBC ($nn,X) (E1, 6 cycles; R163). -/
def execSbcIndX (b : Byte) (s : State) : Result := .next (sbc (.indX b) 6 s)

/-- SBC $nn (E5, 3 cycles; R163). -/
def execSbcZp (b : Byte) (s : State) : Result := .next (sbc (.zp b) 3 s)

/-- SBC #$nn (E9, 2 cycles; R163). -/
def execSbcImm (b : Byte) (s : State) : Result := .next (sbc (.imm b) 2 s)

/-- SBC $nnnn (ED, 4 cycles; R163). -/
def execSbcAbs (w : Addr) (s : State) : Result := .next (sbc (.abs w) 4 s)

/-- SBC ($nn),Y (F1, 5+ cycles; R163). -/
def execSbcIndY (b : Byte) (s : State) : Result := .next (sbc (.indY b) 5 s)

/-- SBC $nn,X (F5, 4 cycles; R163). -/
def execSbcZpX (b : Byte) (s : State) : Result := .next (sbc (.zpX b) 4 s)

/-- SBC $nnnn,Y (F9, 4+ cycles; R163). -/
def execSbcAbsY (w : Addr) (s : State) : Result := .next (sbc (.absY w) 4 s)

/-- SBC $nnnn,X (FD, 4+ cycles; R163). -/
def execSbcAbsX (w : Addr) (s : State) : Result := .next (sbc (.absX w) 4 s)

/-- AND ($nn,X) (21, 6 cycles; R164). -/
def execAndIndX (b : Byte) (s : State) : Result := .next (andA (.indX b) 6 s)

/-- AND $nn (25, 3 cycles; R164). -/
def execAndZp (b : Byte) (s : State) : Result := .next (andA (.zp b) 3 s)

/-- AND #$nn (29, 2 cycles; R164). -/
def execAndImm (b : Byte) (s : State) : Result := .next (andA (.imm b) 2 s)

/-- AND $nnnn (2D, 4 cycles; R164). -/
def execAndAbs (w : Addr) (s : State) : Result := .next (andA (.abs w) 4 s)

/-- AND ($nn),Y (31, 5+ cycles; R164). -/
def execAndIndY (b : Byte) (s : State) : Result := .next (andA (.indY b) 5 s)

/-- AND $nn,X (35, 4 cycles; R164). -/
def execAndZpX (b : Byte) (s : State) : Result := .next (andA (.zpX b) 4 s)

/-- AND $nnnn,Y (39, 4+ cycles; R164). -/
def execAndAbsY (w : Addr) (s : State) : Result := .next (andA (.absY w) 4 s)

/-- AND $nnnn,X (3D, 4+ cycles; R164). -/
def execAndAbsX (w : Addr) (s : State) : Result := .next (andA (.absX w) 4 s)

/-- ORA ($nn,X) (01, 6 cycles; R165). -/
def execOraIndX (b : Byte) (s : State) : Result := .next (ora (.indX b) 6 s)

/-- ORA $nn (05, 3 cycles; R165). -/
def execOraZp (b : Byte) (s : State) : Result := .next (ora (.zp b) 3 s)

/-- ORA #$nn (09, 2 cycles; R165). -/
def execOraImm (b : Byte) (s : State) : Result := .next (ora (.imm b) 2 s)

/-- ORA $nnnn (0D, 4 cycles; R165). -/
def execOraAbs (w : Addr) (s : State) : Result := .next (ora (.abs w) 4 s)

/-- ORA ($nn),Y (11, 5+ cycles; R165). -/
def execOraIndY (b : Byte) (s : State) : Result := .next (ora (.indY b) 5 s)

/-- ORA $nn,X (15, 4 cycles; R165). -/
def execOraZpX (b : Byte) (s : State) : Result := .next (ora (.zpX b) 4 s)

/-- ORA $nnnn,Y (19, 4+ cycles; R165). -/
def execOraAbsY (w : Addr) (s : State) : Result := .next (ora (.absY w) 4 s)

/-- ORA $nnnn,X (1D, 4+ cycles; R165). -/
def execOraAbsX (w : Addr) (s : State) : Result := .next (ora (.absX w) 4 s)

/-- EOR ($nn,X) (41, 6 cycles; R166). -/
def execEorIndX (b : Byte) (s : State) : Result := .next (eor (.indX b) 6 s)

/-- EOR $nn (45, 3 cycles; R166). -/
def execEorZp (b : Byte) (s : State) : Result := .next (eor (.zp b) 3 s)

/-- EOR #$nn (49, 2 cycles; R166). -/
def execEorImm (b : Byte) (s : State) : Result := .next (eor (.imm b) 2 s)

/-- EOR $nnnn (4D, 4 cycles; R166). -/
def execEorAbs (w : Addr) (s : State) : Result := .next (eor (.abs w) 4 s)

/-- EOR ($nn),Y (51, 5+ cycles; R166). -/
def execEorIndY (b : Byte) (s : State) : Result := .next (eor (.indY b) 5 s)

/-- EOR $nn,X (55, 4 cycles; R166). -/
def execEorZpX (b : Byte) (s : State) : Result := .next (eor (.zpX b) 4 s)

/-- EOR $nnnn,Y (59, 4+ cycles; R166). -/
def execEorAbsY (w : Addr) (s : State) : Result := .next (eor (.absY w) 4 s)

/-- EOR $nnnn,X (5D, 4+ cycles; R166). -/
def execEorAbsX (w : Addr) (s : State) : Result := .next (eor (.absX w) 4 s)

/-- CMP ($nn,X) (C1, 6 cycles; R167). -/
def execCmpIndX (b : Byte) (s : State) : Result := .next (cmp (.indX b) 6 s)

/-- CMP $nn (C5, 3 cycles; R167). -/
def execCmpZp (b : Byte) (s : State) : Result := .next (cmp (.zp b) 3 s)

/-- CMP #$nn (C9, 2 cycles; R167). -/
def execCmpImm (b : Byte) (s : State) : Result := .next (cmp (.imm b) 2 s)

/-- CMP $nnnn (CD, 4 cycles; R167). -/
def execCmpAbs (w : Addr) (s : State) : Result := .next (cmp (.abs w) 4 s)

/-- CMP ($nn),Y (D1, 5+ cycles; R167). -/
def execCmpIndY (b : Byte) (s : State) : Result := .next (cmp (.indY b) 5 s)

/-- CMP $nn,X (D5, 4 cycles; R167). -/
def execCmpZpX (b : Byte) (s : State) : Result := .next (cmp (.zpX b) 4 s)

/-- CMP $nnnn,Y (D9, 4+ cycles; R167). -/
def execCmpAbsY (w : Addr) (s : State) : Result := .next (cmp (.absY w) 4 s)

/-- CMP $nnnn,X (DD, 4+ cycles; R167). -/
def execCmpAbsX (w : Addr) (s : State) : Result := .next (cmp (.absX w) 4 s)

/-- CPX #$nn (E0, 2 cycles; R168). -/
def execCpxImm (b : Byte) (s : State) : Result := .next (cpx (.imm b) 2 s)

/-- CPX $nn (E4, 3 cycles; R168). -/
def execCpxZp (b : Byte) (s : State) : Result := .next (cpx (.zp b) 3 s)

/-- CPX $nnnn (EC, 4 cycles; R168). -/
def execCpxAbs (w : Addr) (s : State) : Result := .next (cpx (.abs w) 4 s)

/-- CPY #$nn (C0, 2 cycles; R169). -/
def execCpyImm (b : Byte) (s : State) : Result := .next (cpy (.imm b) 2 s)

/-- CPY $nn (C4, 3 cycles; R169). -/
def execCpyZp (b : Byte) (s : State) : Result := .next (cpy (.zp b) 3 s)

/-- CPY $nnnn (CC, 4 cycles; R169). -/
def execCpyAbs (w : Addr) (s : State) : Result := .next (cpy (.abs w) 4 s)

/-- BIT $nn (24, 3 cycles; R170). -/
def execBitZp (b : Byte) (s : State) : Result := .next (bit (.zp b) 3 s)

/-- BIT $nnnn (2C, 4 cycles; R170). -/
def execBitAbs (w : Addr) (s : State) : Result := .next (bit (.abs w) 4 s)

end Sys2Proof.Machine
end

