-- ==== Sys2Proof/Machine/Control.lean ====
section
/-! DEFINITION. Jumps, calls, returns, break and branches (45_control.md R200 to R213). -/

namespace Sys2Proof.Machine

/-- JMP $nnnn (4C, 3 cycles; R200). -/
def execJmpAbs (w : Addr) (s : State) : Result :=
  .next (({ s with pc := w } : State).finish 3)

/-- Where the high byte of an indirect target stands: in the pointer's own page (40_addressing.md R113). -/
def indirectHigh (ptr : Addr) : Addr := inPageOf ptr (ptr + 1)

/-- JMP ($nnnn) (6C, 5 cycles; R200). -/
def execJmpInd (w : Addr) (s : State) : Result :=
  .next (({ s.busRead2 w (indirectHigh w) with pc := s.busWord w (indirectHigh w) } : State).finish 5)

/-- JSR up to its pushes: R116's dummy read of the stack, then the address of the JSR's last byte (R201). The low target
byte is already fetched, so PC holds that address. -/
def State.pushLink (s : State) : State := (s.dummyRead (stackSlot s.sp)).pushPc

/-- JSR $nnnn (20, 6 cycles; R201). The high target byte is fetched after the pushes, so it is the byte that stands there
then; the byte in `w` stood there when the instruction was decoded (entry 15). -/
def execJsr (w : Addr) (s : State) : Result :=
  .next (({ s.pushLink.fetch8 with pc := word s.pushLink.fetched (loByte w) } : State).finish 6)

/-- R116's dummy reads of RTS and RTI: PC, then the stack slot before the pulls. -/
def State.beforeReturn (s : State) : State := (s.dummyRead s.pc).dummyRead (stackSlot s.sp)

/-- The link RTS pulls, low byte first (R202). -/
def State.pulledLink (s : State) : Addr := word s.pull.pulled s.pulled

/-- RTS after its dummy reads: both pulls, R116's dummy read of the pulled address, and PC one past it (R202). -/
def State.returnToLink (s : State) : State :=
  { s.pull.pull.dummyRead s.pulledLink with pc := s.pulledLink + 1 }

/-- RTS (60, 6 cycles; R202). -/
def execRts (s : State) : Result :=
  .next (s.beforeReturn.returnToLink.finish 6)

/-- RTI (40, 6 cycles; R203). -/
def execRti (s : State) : Result :=
  .next (s.beforeReturn.returnFromException.finish 6)

/-- BRK's padding byte: PC advances over it, and only `DummyAccesses = true` reads it (R204, R116). -/
def State.skipPadding (s : State) : State := { s.dummyRead s.pc with pc := s.pc + 1 }

/-- BRK (00, 7 cycles; R204). -/
def execBrk (s : State) : Result :=
  .next ((s.skipPadding.enterException true true irqVector).finish 7)

/-- BCC $nnnn (target) (90, 2 cycles; R206). -/
def execBcc (b : Byte) (s : State) : Result :=
  .next (branchOp (!s.p.c) b s)

/-- BCS $nnnn (target) (B0, 2 cycles; R207). -/
def execBcs (b : Byte) (s : State) : Result :=
  .next (branchOp s.p.c b s)

/-- BEQ $nnnn (target) (F0, 2 cycles; R208). -/
def execBeq (b : Byte) (s : State) : Result :=
  .next (branchOp s.p.z b s)

/-- BNE $nnnn (target) (D0, 2 cycles; R209). -/
def execBne (b : Byte) (s : State) : Result :=
  .next (branchOp (!s.p.z) b s)

/-- BMI $nnnn (target) (30, 2 cycles; R210). -/
def execBmi (b : Byte) (s : State) : Result :=
  .next (branchOp s.p.n b s)

/-- BPL $nnnn (target) (10, 2 cycles; R211). -/
def execBpl (b : Byte) (s : State) : Result :=
  .next (branchOp (!s.p.n) b s)

/-- BVC $nnnn (target) (50, 2 cycles; R212). -/
def execBvc (b : Byte) (s : State) : Result :=
  .next (branchOp (!s.p.v) b s)

/-- BVS $nnnn (target) (70, 2 cycles; R213). -/
def execBvs (b : Byte) (s : State) : Result :=
  .next (branchOp s.p.v b s)

end Sys2Proof.Machine
end

