-- ==== Sys2Proof/Machine/FlagMisc.lean ====
section
/-! DEFINITION. Flag instructions and NOP (46_flags_misc.md R220 to R227). -/

namespace Sys2Proof.Machine

/-- CLC (18, 2 cycles; R220). -/
def execClc (s : State) : Result :=
  .next (impliedOp 2 (fun s => s.setC false) s)

/-- SEC (38, 2 cycles; R221). -/
def execSec (s : State) : Result :=
  .next (impliedOp 2 (fun s => s.setC true) s)

/-- CLI (58, 2 cycles; R222). -/
def execCli (s : State) : Result :=
  .next (impliedOp 2 (fun s => s.setI false) s)

/-- SEI (78, 2 cycles; R223). -/
def execSei (s : State) : Result :=
  .next (impliedOp 2 (fun s => s.setI true) s)

/-- CLD (D8, 2 cycles; R224). -/
def execCld (s : State) : Result :=
  .next (impliedOp 2 (fun s => s.setD false) s)

/-- SED (F8, 2 cycles; R225). -/
def execSed (s : State) : Result :=
  .next (impliedOp 2 (fun s => s.setD true) s)

/-- CLV (B8, 2 cycles; R226). -/
def execClv (s : State) : Result :=
  .next (impliedOp 2 (fun s => s.setV false) s)

/-- NOP (EA, 2 cycles; R227). -/
def execNop (s : State) : Result :=
  .next (impliedOp 2 (fun s => s) s)

end Sys2Proof.Machine
end

