-- ==== Sys2Proof/Machine/IncDecShift.lean ====
section
/-! DEFINITION. Increments, decrements, shifts and rotates (44_incdec_shift.md R180 to R189). -/

namespace Sys2Proof.Machine

/-- `r <- (m + 1) & 0xFF; Store(opd, r); SetNZ(r)` (R180). -/
def inc (m : Mode) (cost : Nat) : State → State := rmwOp m cost (fun v => v + 1) (fun s _ r => s.setNZ r)

/-- `r <- (m - 1) & 0xFF; Store(opd, r); SetNZ(r)` (R181). -/
def dec (m : Mode) (cost : Nat) : State → State := rmwOp m cost (fun v => v - 1) (fun s _ r => s.setNZ r)

/-- `C <- m[7]; r <- (m << 1) & 0xFF; Store(opd, r); SetNZ(r)` (R186). -/
def asl (m : Mode) (cost : Nat) : State → State :=
  rmwOp m cost (fun v => v <<< 1) (fun s v r => (s.setC (v.getLsbD 7)).setNZ r)

/-- `C <- m[0]; r <- m >> 1; Store(opd, r); SetNZ(r)` (R187). -/
def lsr (m : Mode) (cost : Nat) : State → State :=
  rmwOp m cost (fun v => v >>> 1) (fun s v r => (s.setC (v.getLsbD 0)).setNZ r)

/-- `r <- ((m << 1) | C) & 0xFF; C <- m[7]; Store(opd, r); SetNZ(r)` (R188). -/
def rol (m : Mode) (cost : Nat) (s : State) : State :=
  rmwOp m cost (fun v => rolByte v s.p.c) (fun s v r => (s.setC (v.getLsbD 7)).setNZ r) s

/-- `r <- (C << 7) | (m >> 1); C <- m[0]; Store(opd, r); SetNZ(r)` (R189). -/
def ror (m : Mode) (cost : Nat) (s : State) : State :=
  rmwOp m cost (fun v => rorByte v s.p.c) (fun s v r => (s.setC (v.getLsbD 0)).setNZ r) s

/-- INC $nn (E6, 5 cycles; R180). -/
def execIncZp (b : Byte) (s : State) : Result := .next (inc (.zp b) 5 s)

/-- INC $nnnn (EE, 6 cycles; R180). -/
def execIncAbs (w : Addr) (s : State) : Result := .next (inc (.abs w) 6 s)

/-- INC $nn,X (F6, 6 cycles; R180). -/
def execIncZpX (b : Byte) (s : State) : Result := .next (inc (.zpX b) 6 s)

/-- INC $nnnn,X (FE, 7 cycles; R180). -/
def execIncAbsX (w : Addr) (s : State) : Result := .next (inc (.absX w) 7 s)

/-- DEC $nn (C6, 5 cycles; R181). -/
def execDecZp (b : Byte) (s : State) : Result := .next (dec (.zp b) 5 s)

/-- DEC $nnnn (CE, 6 cycles; R181). -/
def execDecAbs (w : Addr) (s : State) : Result := .next (dec (.abs w) 6 s)

/-- DEC $nn,X (D6, 6 cycles; R181). -/
def execDecZpX (b : Byte) (s : State) : Result := .next (dec (.zpX b) 6 s)

/-- DEC $nnnn,X (DE, 7 cycles; R181). -/
def execDecAbsX (w : Addr) (s : State) : Result := .next (dec (.absX w) 7 s)

/-- INX (E8, 2 cycles; R182). -/
def execInx (s : State) : Result :=
  .next (impliedOp 2 (fun s => ({ s with x := s.x + 1 } : State).setNZ (s.x + 1)) s)

/-- INY (C8, 2 cycles; R183). -/
def execIny (s : State) : Result :=
  .next (impliedOp 2 (fun s => ({ s with y := s.y + 1 } : State).setNZ (s.y + 1)) s)

/-- DEX (CA, 2 cycles; R184). -/
def execDex (s : State) : Result :=
  .next (impliedOp 2 (fun s => ({ s with x := s.x - 1 } : State).setNZ (s.x - 1)) s)

/-- DEY (88, 2 cycles; R185). -/
def execDey (s : State) : Result :=
  .next (impliedOp 2 (fun s => ({ s with y := s.y - 1 } : State).setNZ (s.y - 1)) s)

/-- ASL $nn (06, 5 cycles; R186). -/
def execAslZp (b : Byte) (s : State) : Result := .next (asl (.zp b) 5 s)

/-- ASL A (0A, 2 cycles; R186). -/
def execAslAcc (s : State) : Result := .next (asl .acc 2 s)

/-- ASL $nnnn (0E, 6 cycles; R186). -/
def execAslAbs (w : Addr) (s : State) : Result := .next (asl (.abs w) 6 s)

/-- ASL $nn,X (16, 6 cycles; R186). -/
def execAslZpX (b : Byte) (s : State) : Result := .next (asl (.zpX b) 6 s)

/-- ASL $nnnn,X (1E, 7 cycles; R186). -/
def execAslAbsX (w : Addr) (s : State) : Result := .next (asl (.absX w) 7 s)

/-- LSR $nn (46, 5 cycles; R187). -/
def execLsrZp (b : Byte) (s : State) : Result := .next (lsr (.zp b) 5 s)

/-- LSR A (4A, 2 cycles; R187). -/
def execLsrAcc (s : State) : Result := .next (lsr .acc 2 s)

/-- LSR $nnnn (4E, 6 cycles; R187). -/
def execLsrAbs (w : Addr) (s : State) : Result := .next (lsr (.abs w) 6 s)

/-- LSR $nn,X (56, 6 cycles; R187). -/
def execLsrZpX (b : Byte) (s : State) : Result := .next (lsr (.zpX b) 6 s)

/-- LSR $nnnn,X (5E, 7 cycles; R187). -/
def execLsrAbsX (w : Addr) (s : State) : Result := .next (lsr (.absX w) 7 s)

/-- ROL $nn (26, 5 cycles; R188). -/
def execRolZp (b : Byte) (s : State) : Result := .next (rol (.zp b) 5 s)

/-- ROL A (2A, 2 cycles; R188). -/
def execRolAcc (s : State) : Result := .next (rol .acc 2 s)

/-- ROL $nnnn (2E, 6 cycles; R188). -/
def execRolAbs (w : Addr) (s : State) : Result := .next (rol (.abs w) 6 s)

/-- ROL $nn,X (36, 6 cycles; R188). -/
def execRolZpX (b : Byte) (s : State) : Result := .next (rol (.zpX b) 6 s)

/-- ROL $nnnn,X (3E, 7 cycles; R188). -/
def execRolAbsX (w : Addr) (s : State) : Result := .next (rol (.absX w) 7 s)

/-- ROR $nn (66, 5 cycles; R189). -/
def execRorZp (b : Byte) (s : State) : Result := .next (ror (.zp b) 5 s)

/-- ROR A (6A, 2 cycles; R189). -/
def execRorAcc (s : State) : Result := .next (ror .acc 2 s)

/-- ROR $nnnn (6E, 6 cycles; R189). -/
def execRorAbs (w : Addr) (s : State) : Result := .next (ror (.abs w) 6 s)

/-- ROR $nn,X (76, 6 cycles; R189). -/
def execRorZpX (b : Byte) (s : State) : Result := .next (ror (.zpX b) 6 s)

/-- ROR $nnnn,X (7E, 7 cycles; R189). -/
def execRorAbsX (w : Addr) (s : State) : Result := .next (ror (.absX w) 7 s)

end Sys2Proof.Machine
end

