-- ==== Sys2Proof/Machine/LoadStore.lean ====
section
/-! DEFINITION. Loads and stores (41_load_store.md R120 to R125). -/

namespace Sys2Proof.Machine

/-- `v <- Load(opd); A <- v; SetNZ(v)` (R120). -/
def lda (m : Mode) (cost : Nat) : State → State := readOp m cost (fun s v => ({ s with a := v } : State).setNZ v)

/-- `v <- Load(opd); X <- v; SetNZ(v)` (R121). -/
def ldx (m : Mode) (cost : Nat) : State → State := readOp m cost (fun s v => ({ s with x := v } : State).setNZ v)

/-- `v <- Load(opd); Y <- v; SetNZ(v)` (R122). -/
def ldy (m : Mode) (cost : Nat) : State → State := readOp m cost (fun s v => ({ s with y := v } : State).setNZ v)

/-- `Store(opd, A)` (R123). -/
def sta (m : Mode) (cost : Nat) (s : State) : State := writeOp m cost s.a s

/-- `Store(opd, X)` (R124). -/
def stx (m : Mode) (cost : Nat) (s : State) : State := writeOp m cost s.x s

/-- `Store(opd, Y)` (R125). -/
def sty (m : Mode) (cost : Nat) (s : State) : State := writeOp m cost s.y s

/-- LDA ($nn,X) (A1, 6 cycles; R120). -/
def execLdaIndX (b : Byte) (s : State) : Result := .next (lda (.indX b) 6 s)

/-- LDA $nn (A5, 3 cycles; R120). -/
def execLdaZp (b : Byte) (s : State) : Result := .next (lda (.zp b) 3 s)

/-- LDA #$nn (A9, 2 cycles; R120). -/
def execLdaImm (b : Byte) (s : State) : Result := .next (lda (.imm b) 2 s)

/-- LDA $nnnn (AD, 4 cycles; R120). -/
def execLdaAbs (w : Addr) (s : State) : Result := .next (lda (.abs w) 4 s)

/-- LDA ($nn),Y (B1, 5+ cycles; R120). -/
def execLdaIndY (b : Byte) (s : State) : Result := .next (lda (.indY b) 5 s)

/-- LDA $nn,X (B5, 4 cycles; R120). -/
def execLdaZpX (b : Byte) (s : State) : Result := .next (lda (.zpX b) 4 s)

/-- LDA $nnnn,Y (B9, 4+ cycles; R120). -/
def execLdaAbsY (w : Addr) (s : State) : Result := .next (lda (.absY w) 4 s)

/-- LDA $nnnn,X (BD, 4+ cycles; R120). -/
def execLdaAbsX (w : Addr) (s : State) : Result := .next (lda (.absX w) 4 s)

/-- LDX #$nn (A2, 2 cycles; R121). -/
def execLdxImm (b : Byte) (s : State) : Result := .next (ldx (.imm b) 2 s)

/-- LDX $nn (A6, 3 cycles; R121). -/
def execLdxZp (b : Byte) (s : State) : Result := .next (ldx (.zp b) 3 s)

/-- LDX $nnnn (AE, 4 cycles; R121). -/
def execLdxAbs (w : Addr) (s : State) : Result := .next (ldx (.abs w) 4 s)

/-- LDX $nn,Y (B6, 4 cycles; R121). -/
def execLdxZpY (b : Byte) (s : State) : Result := .next (ldx (.zpY b) 4 s)

/-- LDX $nnnn,Y (BE, 4+ cycles; R121). -/
def execLdxAbsY (w : Addr) (s : State) : Result := .next (ldx (.absY w) 4 s)

/-- LDY #$nn (A0, 2 cycles; R122). -/
def execLdyImm (b : Byte) (s : State) : Result := .next (ldy (.imm b) 2 s)

/-- LDY $nn (A4, 3 cycles; R122). -/
def execLdyZp (b : Byte) (s : State) : Result := .next (ldy (.zp b) 3 s)

/-- LDY $nnnn (AC, 4 cycles; R122). -/
def execLdyAbs (w : Addr) (s : State) : Result := .next (ldy (.abs w) 4 s)

/-- LDY $nn,X (B4, 4 cycles; R122). -/
def execLdyZpX (b : Byte) (s : State) : Result := .next (ldy (.zpX b) 4 s)

/-- LDY $nnnn,X (BC, 4+ cycles; R122). -/
def execLdyAbsX (w : Addr) (s : State) : Result := .next (ldy (.absX w) 4 s)

/-- STA ($nn,X) (81, 6 cycles; R123). -/
def execStaIndX (b : Byte) (s : State) : Result := .next (sta (.indX b) 6 s)

/-- STA $nn (85, 3 cycles; R123). -/
def execStaZp (b : Byte) (s : State) : Result := .next (sta (.zp b) 3 s)

/-- STA $nnnn (8D, 4 cycles; R123). -/
def execStaAbs (w : Addr) (s : State) : Result := .next (sta (.abs w) 4 s)

/-- STA ($nn),Y (91, 6 cycles; R123). -/
def execStaIndY (b : Byte) (s : State) : Result := .next (sta (.indY b) 6 s)

/-- STA $nn,X (95, 4 cycles; R123). -/
def execStaZpX (b : Byte) (s : State) : Result := .next (sta (.zpX b) 4 s)

/-- STA $nnnn,Y (99, 5 cycles; R123). -/
def execStaAbsY (w : Addr) (s : State) : Result := .next (sta (.absY w) 5 s)

/-- STA $nnnn,X (9D, 5 cycles; R123). -/
def execStaAbsX (w : Addr) (s : State) : Result := .next (sta (.absX w) 5 s)

/-- STX $nn (86, 3 cycles; R124). -/
def execStxZp (b : Byte) (s : State) : Result := .next (stx (.zp b) 3 s)

/-- STX $nnnn (8E, 4 cycles; R124). -/
def execStxAbs (w : Addr) (s : State) : Result := .next (stx (.abs w) 4 s)

/-- STX $nn,Y (96, 4 cycles; R124). -/
def execStxZpY (b : Byte) (s : State) : Result := .next (stx (.zpY b) 4 s)

/-- STY $nn (84, 3 cycles; R125). -/
def execStyZp (b : Byte) (s : State) : Result := .next (sty (.zp b) 3 s)

/-- STY $nnnn (8C, 4 cycles; R125). -/
def execStyAbs (w : Addr) (s : State) : Result := .next (sty (.abs w) 4 s)

/-- STY $nn,X (94, 4 cycles; R125). -/
def execStyZpX (b : Byte) (s : State) : Result := .next (sty (.zpX b) 4 s)

end Sys2Proof.Machine
end

