-- ==== Sys2Proof/Machine/TransferStack.lean ====
section
/-! DEFINITION. Register transfers and stack operations (42_transfer_stack.md R130 to R139). -/

namespace Sys2Proof.Machine

/-- TAX (AA, 2 cycles; R130). -/
def execTax (s : State) : Result :=
  .next (impliedOp 2 (fun s => ({ s with x := s.a } : State).setNZ s.a) s)

/-- TAY (A8, 2 cycles; R131). -/
def execTay (s : State) : Result :=
  .next (impliedOp 2 (fun s => ({ s with y := s.a } : State).setNZ s.a) s)

/-- TXA (8A, 2 cycles; R132). -/
def execTxa (s : State) : Result :=
  .next (impliedOp 2 (fun s => ({ s with a := s.x } : State).setNZ s.x) s)

/-- TYA (98, 2 cycles; R133). -/
def execTya (s : State) : Result :=
  .next (impliedOp 2 (fun s => ({ s with a := s.y } : State).setNZ s.y) s)

/-- TSX (BA, 2 cycles; R134). -/
def execTsx (s : State) : Result :=
  .next (impliedOp 2 (fun s => ({ s with x := s.sp } : State).setNZ s.sp) s)

/-- TXS (9A, 2 cycles; R135). -/
def execTxs (s : State) : Result :=
  .next (impliedOp 2 (fun s => { s with sp := s.x }) s)

/-- Pushes `v`, after R116's dummy read of PC. -/
def pushOp (cost : Nat) (v : Byte) (s : State) : State := ((s.dummyRead s.pc).push v).finish cost

/-- R116's dummy reads of an instruction that pulls: PC, then the stack slot before S is incremented. -/
def State.beforePull (s : State) : State := (s.dummyRead s.pc).dummyRead (stackSlot s.sp)

/-- PHA (48, 3 cycles; R136). -/
def execPha (s : State) : Result :=
  .next (pushOp 3 s.a s)

/-- PHP (08, 3 cycles; R137). -/
def execPhp (s : State) : Result :=
  .next (pushOp 3 (packP true s.p) s)

/-- PLA (68, 4 cycles; R138). -/
def execPla (s : State) : Result :=
  .next ((({ s.beforePull.pull with a := s.beforePull.pulled } : State).setNZ s.beforePull.pulled).finish 4)

/-- PLP (28, 4 cycles; R139). -/
def execPlp (s : State) : Result :=
  .next (({ s.beforePull.pull with p := unpackP s.beforePull.pulled } : State).finish 4)

end Sys2Proof.Machine
end

