-- ==== Sys2Proof/Machine/Unofficial.lean ====
section
/-! DEFINITION. The unofficial opcodes (47_unofficial.md R230 to R255). -/

namespace Sys2Proof.Machine

/-- `UnofficialPolicy` applied to an opcode of the stable class (R230 to R233): refused; a no-op of the row's length and
base cost, with no bus access but its fetch and no penalty (R232); or its known semantics. -/
def unofficial (op : Byte) (cost : Nat) (semantics : State → State) (s : State) : Result :=
  match s.cfg.policy with
  | .refuse => .refused (.unofficial op)
  | .nop => .next (s.finish cost)
  | .semantic => .next (semantics s)

/-- An opcode of the unstable class: `Nop` gives it R232's no-op, `Semantic` refuses it (R233, 92_eei_decisions.md D4). -/
def unstable (op : Byte) (cost : Nat) (s : State) : Result :=
  match s.cfg.policy with
  | .refuse => .refused (.unofficial op)
  | .nop => .next (s.finish cost)
  | .semantic => .refused (.unofficial op)

/-- JAM (R254): `halted` is set, nothing is added to `cycles` and no cost is returned. Under `Nop` and `Refuse` it is
refused (R231, R232). R116's dummy read is class `none`'s (entry 16). -/
def jam (op : Byte) (s : State) : Result :=
  match s.cfg.policy with
  | .refuse => .refused (.unofficial op)
  | .nop => .refused (.unofficial op)
  | .semantic => .next { s.dummyRead s.pc with halted := true, lastCost := none }

/-- The unofficial NOP with an operand: it is read and discarded (R234). -/
def nopRead (m : Mode) (cost : Nat) : State → State := readOp m cost (fun s _ => s)

/-- SLO (R235): shift left, then or with A. -/
def slo (m : Mode) (cost : Nat) : State → State :=
  rmwOp m cost (fun v => v <<< 1)
    (fun s v r => ({ s.setC (v.getLsbD 7) with a := s.a ||| r } : State).setNZ (s.a ||| r))

/-- RLA (R236): rotate left, then and with A. -/
def rla (m : Mode) (cost : Nat) (s : State) : State :=
  rmwOp m cost (fun v => rolByte v s.p.c)
    (fun s v r => ({ s.setC (v.getLsbD 7) with a := s.a &&& r } : State).setNZ (s.a &&& r)) s

/-- SRE (R237): shift right, then exclusive or with A. -/
def sre (m : Mode) (cost : Nat) : State → State :=
  rmwOp m cost (fun v => v >>> 1)
    (fun s v r => ({ s.setC (v.getLsbD 0) with a := s.a ^^^ r } : State).setNZ (s.a ^^^ r))

/-- RRA (R238): rotate right, then add to A with the carry out of the rotate. -/
def rra (m : Mode) (cost : Nat) (s : State) : State :=
  rmwOp m cost (fun v => rorByte v s.p.c) (fun s v r => (s.setC (v.getLsbD 0)).addToA r) s

/-- SAX (R239): `Store(opd, A & X)`. -/
def sax (m : Mode) (cost : Nat) (s : State) : State := writeOp m cost (s.a &&& s.x) s

/-- LAX (R240): load A and X. -/
def lax (m : Mode) (cost : Nat) : State → State :=
  readOp m cost (fun s v => ({ s with a := v, x := v } : State).setNZ v)

/-- DCP (R241): decrement memory, then compare with A. -/
def dcp (m : Mode) (cost : Nat) : State → State := rmwOp m cost (fun v => v - 1) (fun s _ r => s.compare s.a r)

/-- ISC (R242): increment memory, then subtract from A. -/
def isc (m : Mode) (cost : Nat) : State → State := rmwOp m cost (fun v => v + 1) (fun s _ r => s.subFromA r)

/-- ANC (R243): and with A, then C takes bit 7 of A. -/
def anc (m : Mode) (cost : Nat) : State → State :=
  readOp m cost (fun s v => (({ s with a := s.a &&& v } : State).setNZ (s.a &&& v)).setC ((s.a &&& v).getLsbD 7))

/-- ALR (R244): and with A, then shift right. -/
def alr (m : Mode) (cost : Nat) : State → State :=
  readOp m cost (fun s v =>
    ({ s.setC ((s.a &&& v).getLsbD 0) with a := (s.a &&& v) >>> 1 } : State).setNZ ((s.a &&& v) >>> 1))

/-- ARR's new A (R245). -/
def arrByte (a v : Byte) (c : Bool) : Byte := rorByte (a &&& v) c

/-- ARR (R245): and with A, rotate right; C from bit 6 of the new A, V from its bits 6 and 5. -/
def arr (m : Mode) (cost : Nat) : State → State :=
  readOp m cost (fun s v =>
    let r := arrByte s.a v s.p.c
    ((({ s with a := r } : State).setNZ r).setC (r.getLsbD 6)).setV (r.getLsbD 6 ^^ r.getLsbD 5))

/-- AXS (R246): `t <- A & X; C <- (t >= v); X <- t - v`. -/
def axs (m : Mode) (cost : Nat) : State → State :=
  readOp m cost (fun s v =>
    ({ s.setC (decide (v.toNat ≤ (s.a &&& s.x).toNat)) with x := (s.a &&& s.x) - v } : State).setNZ
      ((s.a &&& s.x) - v))

/-- SBC at 0xEB (R247): as SBC (R163). -/
def sbcUnofficial (m : Mode) (cost : Nat) : State → State := readOp m cost State.subFromA

/-- LAS (R248): and memory with S into A, X and S. -/
def las (m : Mode) (cost : Nat) : State → State :=
  readOp m cost (fun s v =>
    ({ s with a := v &&& s.sp, x := v &&& s.sp, sp := v &&& s.sp } : State).setNZ (v &&& s.sp))

/-- NOP $nn (04, 3 cycles; R234). -/
def execNop04 (b : Byte) (s : State) : Result :=
  unofficial 0x04 3 (nopRead (.zp b) 3) s

/-- NOP $nnnn (0C, 4 cycles; R234). -/
def execNop0C (w : Addr) (s : State) : Result :=
  unofficial 0x0C 4 (nopRead (.abs w) 4) s

/-- NOP $nn,X (14, 4 cycles; R234). -/
def execNop14 (b : Byte) (s : State) : Result :=
  unofficial 0x14 4 (nopRead (.zpX b) 4) s

/-- NOP (1A, 2 cycles; R234). -/
def execNop1A (s : State) : Result :=
  unofficial 0x1A 2 (impliedOp 2 (fun s => s)) s

/-- NOP $nnnn,X (1C, 4+ cycles; R234). -/
def execNop1C (w : Addr) (s : State) : Result :=
  unofficial 0x1C 4 (nopRead (.absX w) 4) s

/-- NOP $nn,X (34, 4 cycles; R234). -/
def execNop34 (b : Byte) (s : State) : Result :=
  unofficial 0x34 4 (nopRead (.zpX b) 4) s

/-- NOP (3A, 2 cycles; R234). -/
def execNop3A (s : State) : Result :=
  unofficial 0x3A 2 (impliedOp 2 (fun s => s)) s

/-- NOP $nnnn,X (3C, 4+ cycles; R234). -/
def execNop3C (w : Addr) (s : State) : Result :=
  unofficial 0x3C 4 (nopRead (.absX w) 4) s

/-- NOP $nn (44, 3 cycles; R234). -/
def execNop44 (b : Byte) (s : State) : Result :=
  unofficial 0x44 3 (nopRead (.zp b) 3) s

/-- NOP $nn,X (54, 4 cycles; R234). -/
def execNop54 (b : Byte) (s : State) : Result :=
  unofficial 0x54 4 (nopRead (.zpX b) 4) s

/-- NOP (5A, 2 cycles; R234). -/
def execNop5A (s : State) : Result :=
  unofficial 0x5A 2 (impliedOp 2 (fun s => s)) s

/-- NOP $nnnn,X (5C, 4+ cycles; R234). -/
def execNop5C (w : Addr) (s : State) : Result :=
  unofficial 0x5C 4 (nopRead (.absX w) 4) s

/-- NOP $nn (64, 3 cycles; R234). -/
def execNop64 (b : Byte) (s : State) : Result :=
  unofficial 0x64 3 (nopRead (.zp b) 3) s

/-- NOP $nn,X (74, 4 cycles; R234). -/
def execNop74 (b : Byte) (s : State) : Result :=
  unofficial 0x74 4 (nopRead (.zpX b) 4) s

/-- NOP (7A, 2 cycles; R234). -/
def execNop7A (s : State) : Result :=
  unofficial 0x7A 2 (impliedOp 2 (fun s => s)) s

/-- NOP $nnnn,X (7C, 4+ cycles; R234). -/
def execNop7C (w : Addr) (s : State) : Result :=
  unofficial 0x7C 4 (nopRead (.absX w) 4) s

/-- NOP #$nn (80, 2 cycles; R234). -/
def execNop80 (b : Byte) (s : State) : Result :=
  unofficial 0x80 2 (nopRead (.imm b) 2) s

/-- NOP #$nn (82, 2 cycles; R234). -/
def execNop82 (b : Byte) (s : State) : Result :=
  unofficial 0x82 2 (nopRead (.imm b) 2) s

/-- NOP #$nn (89, 2 cycles; R234). -/
def execNop89 (b : Byte) (s : State) : Result :=
  unofficial 0x89 2 (nopRead (.imm b) 2) s

/-- NOP #$nn (C2, 2 cycles; R234). -/
def execNopC2 (b : Byte) (s : State) : Result :=
  unofficial 0xC2 2 (nopRead (.imm b) 2) s

/-- NOP $nn,X (D4, 4 cycles; R234). -/
def execNopD4 (b : Byte) (s : State) : Result :=
  unofficial 0xD4 4 (nopRead (.zpX b) 4) s

/-- NOP (DA, 2 cycles; R234). -/
def execNopDA (s : State) : Result :=
  unofficial 0xDA 2 (impliedOp 2 (fun s => s)) s

/-- NOP $nnnn,X (DC, 4+ cycles; R234). -/
def execNopDC (w : Addr) (s : State) : Result :=
  unofficial 0xDC 4 (nopRead (.absX w) 4) s

/-- NOP #$nn (E2, 2 cycles; R234). -/
def execNopE2 (b : Byte) (s : State) : Result :=
  unofficial 0xE2 2 (nopRead (.imm b) 2) s

/-- NOP $nn,X (F4, 4 cycles; R234). -/
def execNopF4 (b : Byte) (s : State) : Result :=
  unofficial 0xF4 4 (nopRead (.zpX b) 4) s

/-- NOP (FA, 2 cycles; R234). -/
def execNopFA (s : State) : Result :=
  unofficial 0xFA 2 (impliedOp 2 (fun s => s)) s

/-- NOP $nnnn,X (FC, 4+ cycles; R234). -/
def execNopFC (w : Addr) (s : State) : Result :=
  unofficial 0xFC 4 (nopRead (.absX w) 4) s

/-- SLO ($nn,X) (03, 8 cycles; R235). -/
def execSloIndX (b : Byte) (s : State) : Result :=
  unofficial 0x03 8 (slo (.indX b) 8) s

/-- SLO $nn (07, 5 cycles; R235). -/
def execSloZp (b : Byte) (s : State) : Result :=
  unofficial 0x07 5 (slo (.zp b) 5) s

/-- SLO $nnnn (0F, 6 cycles; R235). -/
def execSloAbs (w : Addr) (s : State) : Result :=
  unofficial 0x0F 6 (slo (.abs w) 6) s

/-- SLO ($nn),Y (13, 8 cycles; R235). -/
def execSloIndY (b : Byte) (s : State) : Result :=
  unofficial 0x13 8 (slo (.indY b) 8) s

/-- SLO $nn,X (17, 6 cycles; R235). -/
def execSloZpX (b : Byte) (s : State) : Result :=
  unofficial 0x17 6 (slo (.zpX b) 6) s

/-- SLO $nnnn,Y (1B, 7 cycles; R235). -/
def execSloAbsY (w : Addr) (s : State) : Result :=
  unofficial 0x1B 7 (slo (.absY w) 7) s

/-- SLO $nnnn,X (1F, 7 cycles; R235). -/
def execSloAbsX (w : Addr) (s : State) : Result :=
  unofficial 0x1F 7 (slo (.absX w) 7) s

/-- RLA ($nn,X) (23, 8 cycles; R236). -/
def execRlaIndX (b : Byte) (s : State) : Result :=
  unofficial 0x23 8 (rla (.indX b) 8) s

/-- RLA $nn (27, 5 cycles; R236). -/
def execRlaZp (b : Byte) (s : State) : Result :=
  unofficial 0x27 5 (rla (.zp b) 5) s

/-- RLA $nnnn (2F, 6 cycles; R236). -/
def execRlaAbs (w : Addr) (s : State) : Result :=
  unofficial 0x2F 6 (rla (.abs w) 6) s

/-- RLA ($nn),Y (33, 8 cycles; R236). -/
def execRlaIndY (b : Byte) (s : State) : Result :=
  unofficial 0x33 8 (rla (.indY b) 8) s

/-- RLA $nn,X (37, 6 cycles; R236). -/
def execRlaZpX (b : Byte) (s : State) : Result :=
  unofficial 0x37 6 (rla (.zpX b) 6) s

/-- RLA $nnnn,Y (3B, 7 cycles; R236). -/
def execRlaAbsY (w : Addr) (s : State) : Result :=
  unofficial 0x3B 7 (rla (.absY w) 7) s

/-- RLA $nnnn,X (3F, 7 cycles; R236). -/
def execRlaAbsX (w : Addr) (s : State) : Result :=
  unofficial 0x3F 7 (rla (.absX w) 7) s

/-- SRE ($nn,X) (43, 8 cycles; R237). -/
def execSreIndX (b : Byte) (s : State) : Result :=
  unofficial 0x43 8 (sre (.indX b) 8) s

/-- SRE $nn (47, 5 cycles; R237). -/
def execSreZp (b : Byte) (s : State) : Result :=
  unofficial 0x47 5 (sre (.zp b) 5) s

/-- SRE $nnnn (4F, 6 cycles; R237). -/
def execSreAbs (w : Addr) (s : State) : Result :=
  unofficial 0x4F 6 (sre (.abs w) 6) s

/-- SRE ($nn),Y (53, 8 cycles; R237). -/
def execSreIndY (b : Byte) (s : State) : Result :=
  unofficial 0x53 8 (sre (.indY b) 8) s

/-- SRE $nn,X (57, 6 cycles; R237). -/
def execSreZpX (b : Byte) (s : State) : Result :=
  unofficial 0x57 6 (sre (.zpX b) 6) s

/-- SRE $nnnn,Y (5B, 7 cycles; R237). -/
def execSreAbsY (w : Addr) (s : State) : Result :=
  unofficial 0x5B 7 (sre (.absY w) 7) s

/-- SRE $nnnn,X (5F, 7 cycles; R237). -/
def execSreAbsX (w : Addr) (s : State) : Result :=
  unofficial 0x5F 7 (sre (.absX w) 7) s

/-- RRA ($nn,X) (63, 8 cycles; R238). -/
def execRraIndX (b : Byte) (s : State) : Result :=
  unofficial 0x63 8 (rra (.indX b) 8) s

/-- RRA $nn (67, 5 cycles; R238). -/
def execRraZp (b : Byte) (s : State) : Result :=
  unofficial 0x67 5 (rra (.zp b) 5) s

/-- RRA $nnnn (6F, 6 cycles; R238). -/
def execRraAbs (w : Addr) (s : State) : Result :=
  unofficial 0x6F 6 (rra (.abs w) 6) s

/-- RRA ($nn),Y (73, 8 cycles; R238). -/
def execRraIndY (b : Byte) (s : State) : Result :=
  unofficial 0x73 8 (rra (.indY b) 8) s

/-- RRA $nn,X (77, 6 cycles; R238). -/
def execRraZpX (b : Byte) (s : State) : Result :=
  unofficial 0x77 6 (rra (.zpX b) 6) s

/-- RRA $nnnn,Y (7B, 7 cycles; R238). -/
def execRraAbsY (w : Addr) (s : State) : Result :=
  unofficial 0x7B 7 (rra (.absY w) 7) s

/-- RRA $nnnn,X (7F, 7 cycles; R238). -/
def execRraAbsX (w : Addr) (s : State) : Result :=
  unofficial 0x7F 7 (rra (.absX w) 7) s

/-- SAX ($nn,X) (83, 6 cycles; R239). -/
def execSaxIndX (b : Byte) (s : State) : Result :=
  unofficial 0x83 6 (sax (.indX b) 6) s

/-- SAX $nn (87, 3 cycles; R239). -/
def execSaxZp (b : Byte) (s : State) : Result :=
  unofficial 0x87 3 (sax (.zp b) 3) s

/-- SAX $nnnn (8F, 4 cycles; R239). -/
def execSaxAbs (w : Addr) (s : State) : Result :=
  unofficial 0x8F 4 (sax (.abs w) 4) s

/-- SAX $nn,Y (97, 4 cycles; R239). -/
def execSaxZpY (b : Byte) (s : State) : Result :=
  unofficial 0x97 4 (sax (.zpY b) 4) s

/-- LAX ($nn,X) (A3, 6 cycles; R240). -/
def execLaxIndX (b : Byte) (s : State) : Result :=
  unofficial 0xA3 6 (lax (.indX b) 6) s

/-- LAX $nn (A7, 3 cycles; R240). -/
def execLaxZp (b : Byte) (s : State) : Result :=
  unofficial 0xA7 3 (lax (.zp b) 3) s

/-- LAX $nnnn (AF, 4 cycles; R240). -/
def execLaxAbs (w : Addr) (s : State) : Result :=
  unofficial 0xAF 4 (lax (.abs w) 4) s

/-- LAX ($nn),Y (B3, 5+ cycles; R240). -/
def execLaxIndY (b : Byte) (s : State) : Result :=
  unofficial 0xB3 5 (lax (.indY b) 5) s

/-- LAX $nn,Y (B7, 4 cycles; R240). -/
def execLaxZpY (b : Byte) (s : State) : Result :=
  unofficial 0xB7 4 (lax (.zpY b) 4) s

/-- LAX $nnnn,Y (BF, 4+ cycles; R240). -/
def execLaxAbsY (w : Addr) (s : State) : Result :=
  unofficial 0xBF 4 (lax (.absY w) 4) s

/-- DCP ($nn,X) (C3, 8 cycles; R241). -/
def execDcpIndX (b : Byte) (s : State) : Result :=
  unofficial 0xC3 8 (dcp (.indX b) 8) s

/-- DCP $nn (C7, 5 cycles; R241). -/
def execDcpZp (b : Byte) (s : State) : Result :=
  unofficial 0xC7 5 (dcp (.zp b) 5) s

/-- DCP $nnnn (CF, 6 cycles; R241). -/
def execDcpAbs (w : Addr) (s : State) : Result :=
  unofficial 0xCF 6 (dcp (.abs w) 6) s

/-- DCP ($nn),Y (D3, 8 cycles; R241). -/
def execDcpIndY (b : Byte) (s : State) : Result :=
  unofficial 0xD3 8 (dcp (.indY b) 8) s

/-- DCP $nn,X (D7, 6 cycles; R241). -/
def execDcpZpX (b : Byte) (s : State) : Result :=
  unofficial 0xD7 6 (dcp (.zpX b) 6) s

/-- DCP $nnnn,Y (DB, 7 cycles; R241). -/
def execDcpAbsY (w : Addr) (s : State) : Result :=
  unofficial 0xDB 7 (dcp (.absY w) 7) s

/-- DCP $nnnn,X (DF, 7 cycles; R241). -/
def execDcpAbsX (w : Addr) (s : State) : Result :=
  unofficial 0xDF 7 (dcp (.absX w) 7) s

/-- ISC ($nn,X) (E3, 8 cycles; R242). -/
def execIscIndX (b : Byte) (s : State) : Result :=
  unofficial 0xE3 8 (isc (.indX b) 8) s

/-- ISC $nn (E7, 5 cycles; R242). -/
def execIscZp (b : Byte) (s : State) : Result :=
  unofficial 0xE7 5 (isc (.zp b) 5) s

/-- ISC $nnnn (EF, 6 cycles; R242). -/
def execIscAbs (w : Addr) (s : State) : Result :=
  unofficial 0xEF 6 (isc (.abs w) 6) s

/-- ISC ($nn),Y (F3, 8 cycles; R242). -/
def execIscIndY (b : Byte) (s : State) : Result :=
  unofficial 0xF3 8 (isc (.indY b) 8) s

/-- ISC $nn,X (F7, 6 cycles; R242). -/
def execIscZpX (b : Byte) (s : State) : Result :=
  unofficial 0xF7 6 (isc (.zpX b) 6) s

/-- ISC $nnnn,Y (FB, 7 cycles; R242). -/
def execIscAbsY (w : Addr) (s : State) : Result :=
  unofficial 0xFB 7 (isc (.absY w) 7) s

/-- ISC $nnnn,X (FF, 7 cycles; R242). -/
def execIscAbsX (w : Addr) (s : State) : Result :=
  unofficial 0xFF 7 (isc (.absX w) 7) s

/-- ANC #$nn (0B, 2 cycles; R243). -/
def execAnc0B (b : Byte) (s : State) : Result :=
  unofficial 0x0B 2 (anc (.imm b) 2) s

/-- ANC #$nn (2B, 2 cycles; R243). -/
def execAnc2B (b : Byte) (s : State) : Result :=
  unofficial 0x2B 2 (anc (.imm b) 2) s

/-- ALR #$nn (4B, 2 cycles; R244). -/
def execAlr (b : Byte) (s : State) : Result :=
  unofficial 0x4B 2 (alr (.imm b) 2) s

/-- ARR #$nn (6B, 2 cycles; R245). -/
def execArr (b : Byte) (s : State) : Result :=
  unofficial 0x6B 2 (arr (.imm b) 2) s

/-- AXS #$nn (CB, 2 cycles; R246). -/
def execAxs (b : Byte) (s : State) : Result :=
  unofficial 0xCB 2 (axs (.imm b) 2) s

/-- SBC #$nn (EB, 2 cycles; R247). -/
def execSbcEB (b : Byte) (s : State) : Result :=
  unofficial 0xEB 2 (sbcUnofficial (.imm b) 2) s

/-- LAS $nnnn,Y (BB, 4+ cycles; R248). -/
def execLas (w : Addr) (s : State) : Result :=
  unofficial 0xBB 4 (las (.absY w) 4) s

/-- ANE #$nn (8B, 2 cycles; R249). -/
def execAne (_b : Byte) (s : State) : Result := unstable 0x8B 2 s

/-- LXA #$nn (AB, 2 cycles; R250). -/
def execLxa (_b : Byte) (s : State) : Result := unstable 0xAB 2 s

/-- SHA ($nn),Y (93, 6 cycles; R251). -/
def execShaIndY (_b : Byte) (s : State) : Result := unstable 0x93 6 s

/-- SHA $nnnn,Y (9F, 5 cycles; R251). -/
def execShaAbsY (_w : Addr) (s : State) : Result := unstable 0x9F 5 s

/-- SHX $nnnn,Y (9E, 5 cycles; R252). -/
def execShx (_w : Addr) (s : State) : Result := unstable 0x9E 5 s

/-- SHY $nnnn,X (9C, 5 cycles; R253). -/
def execShy (_w : Addr) (s : State) : Result := unstable 0x9C 5 s

/-- TAS $nnnn,Y (9B, 5 cycles; R255). -/
def execTas (_w : Addr) (s : State) : Result := unstable 0x9B 5 s

/-- JAM (02; R254). -/
def execJam02 (s : State) : Result := jam 0x02 s

/-- JAM (12; R254). -/
def execJam12 (s : State) : Result := jam 0x12 s

/-- JAM (22; R254). -/
def execJam22 (s : State) : Result := jam 0x22 s

/-- JAM (32; R254). -/
def execJam32 (s : State) : Result := jam 0x32 s

/-- JAM (42; R254). -/
def execJam42 (s : State) : Result := jam 0x42 s

/-- JAM (52; R254). -/
def execJam52 (s : State) : Result := jam 0x52 s

/-- JAM (62; R254). -/
def execJam62 (s : State) : Result := jam 0x62 s

/-- JAM (72; R254). -/
def execJam72 (s : State) : Result := jam 0x72 s

/-- JAM (92; R254). -/
def execJam92 (s : State) : Result := jam 0x92 s

/-- JAM (B2; R254). -/
def execJamB2 (s : State) : Result := jam 0xB2 s

/-- JAM (D2; R254). -/
def execJamD2 (s : State) : Result := jam 0xD2 s

/-- JAM (F2; R254). -/
def execJamF2 (s : State) : Result := jam 0xF2 s

end Sys2Proof.Machine
end

