-- ==== Sys2Proof/Machine/Dispatch.lean ====
section
/-! DEFINITION. One arm per constructor of `Instr`: its meaning, run on the state in which its bytes are fetched
(30_encoding.md R80). -/

namespace Sys2Proof.Machine

open Sys2Proof

def exec (i : Instr) (s : State) : Host.Outcome State Fault Refusal :=
  match i with
  | .brk => Sys2Proof.Machine.execBrk s
  | .oraIndX b => Sys2Proof.Machine.execOraIndX b s
  | .jam02 => Sys2Proof.Machine.execJam02 s
  | .sloIndX b => Sys2Proof.Machine.execSloIndX b s
  | .nop04 b => Sys2Proof.Machine.execNop04 b s
  | .oraZp b => Sys2Proof.Machine.execOraZp b s
  | .aslZp b => Sys2Proof.Machine.execAslZp b s
  | .sloZp b => Sys2Proof.Machine.execSloZp b s
  | .php => Sys2Proof.Machine.execPhp s
  | .oraImm b => Sys2Proof.Machine.execOraImm b s
  | .aslAcc => Sys2Proof.Machine.execAslAcc s
  | .anc0B b => Sys2Proof.Machine.execAnc0B b s
  | .nop0C w => Sys2Proof.Machine.execNop0C w s
  | .oraAbs w => Sys2Proof.Machine.execOraAbs w s
  | .aslAbs w => Sys2Proof.Machine.execAslAbs w s
  | .sloAbs w => Sys2Proof.Machine.execSloAbs w s
  | .bpl b => Sys2Proof.Machine.execBpl b s
  | .oraIndY b => Sys2Proof.Machine.execOraIndY b s
  | .jam12 => Sys2Proof.Machine.execJam12 s
  | .sloIndY b => Sys2Proof.Machine.execSloIndY b s
  | .nop14 b => Sys2Proof.Machine.execNop14 b s
  | .oraZpX b => Sys2Proof.Machine.execOraZpX b s
  | .aslZpX b => Sys2Proof.Machine.execAslZpX b s
  | .sloZpX b => Sys2Proof.Machine.execSloZpX b s
  | .clc => Sys2Proof.Machine.execClc s
  | .oraAbsY w => Sys2Proof.Machine.execOraAbsY w s
  | .nop1A => Sys2Proof.Machine.execNop1A s
  | .sloAbsY w => Sys2Proof.Machine.execSloAbsY w s
  | .nop1C w => Sys2Proof.Machine.execNop1C w s
  | .oraAbsX w => Sys2Proof.Machine.execOraAbsX w s
  | .aslAbsX w => Sys2Proof.Machine.execAslAbsX w s
  | .sloAbsX w => Sys2Proof.Machine.execSloAbsX w s
  | .jsr w => Sys2Proof.Machine.execJsr w s
  | .andIndX b => Sys2Proof.Machine.execAndIndX b s
  | .jam22 => Sys2Proof.Machine.execJam22 s
  | .rlaIndX b => Sys2Proof.Machine.execRlaIndX b s
  | .bitZp b => Sys2Proof.Machine.execBitZp b s
  | .andZp b => Sys2Proof.Machine.execAndZp b s
  | .rolZp b => Sys2Proof.Machine.execRolZp b s
  | .rlaZp b => Sys2Proof.Machine.execRlaZp b s
  | .plp => Sys2Proof.Machine.execPlp s
  | .andImm b => Sys2Proof.Machine.execAndImm b s
  | .rolAcc => Sys2Proof.Machine.execRolAcc s
  | .anc2B b => Sys2Proof.Machine.execAnc2B b s
  | .bitAbs w => Sys2Proof.Machine.execBitAbs w s
  | .andAbs w => Sys2Proof.Machine.execAndAbs w s
  | .rolAbs w => Sys2Proof.Machine.execRolAbs w s
  | .rlaAbs w => Sys2Proof.Machine.execRlaAbs w s
  | .bmi b => Sys2Proof.Machine.execBmi b s
  | .andIndY b => Sys2Proof.Machine.execAndIndY b s
  | .jam32 => Sys2Proof.Machine.execJam32 s
  | .rlaIndY b => Sys2Proof.Machine.execRlaIndY b s
  | .nop34 b => Sys2Proof.Machine.execNop34 b s
  | .andZpX b => Sys2Proof.Machine.execAndZpX b s
  | .rolZpX b => Sys2Proof.Machine.execRolZpX b s
  | .rlaZpX b => Sys2Proof.Machine.execRlaZpX b s
  | .sec => Sys2Proof.Machine.execSec s
  | .andAbsY w => Sys2Proof.Machine.execAndAbsY w s
  | .nop3A => Sys2Proof.Machine.execNop3A s
  | .rlaAbsY w => Sys2Proof.Machine.execRlaAbsY w s
  | .nop3C w => Sys2Proof.Machine.execNop3C w s
  | .andAbsX w => Sys2Proof.Machine.execAndAbsX w s
  | .rolAbsX w => Sys2Proof.Machine.execRolAbsX w s
  | .rlaAbsX w => Sys2Proof.Machine.execRlaAbsX w s
  | .rti => Sys2Proof.Machine.execRti s
  | .eorIndX b => Sys2Proof.Machine.execEorIndX b s
  | .jam42 => Sys2Proof.Machine.execJam42 s
  | .sreIndX b => Sys2Proof.Machine.execSreIndX b s
  | .nop44 b => Sys2Proof.Machine.execNop44 b s
  | .eorZp b => Sys2Proof.Machine.execEorZp b s
  | .lsrZp b => Sys2Proof.Machine.execLsrZp b s
  | .sreZp b => Sys2Proof.Machine.execSreZp b s
  | .pha => Sys2Proof.Machine.execPha s
  | .eorImm b => Sys2Proof.Machine.execEorImm b s
  | .lsrAcc => Sys2Proof.Machine.execLsrAcc s
  | .alr b => Sys2Proof.Machine.execAlr b s
  | .jmpAbs w => Sys2Proof.Machine.execJmpAbs w s
  | .eorAbs w => Sys2Proof.Machine.execEorAbs w s
  | .lsrAbs w => Sys2Proof.Machine.execLsrAbs w s
  | .sreAbs w => Sys2Proof.Machine.execSreAbs w s
  | .bvc b => Sys2Proof.Machine.execBvc b s
  | .eorIndY b => Sys2Proof.Machine.execEorIndY b s
  | .jam52 => Sys2Proof.Machine.execJam52 s
  | .sreIndY b => Sys2Proof.Machine.execSreIndY b s
  | .nop54 b => Sys2Proof.Machine.execNop54 b s
  | .eorZpX b => Sys2Proof.Machine.execEorZpX b s
  | .lsrZpX b => Sys2Proof.Machine.execLsrZpX b s
  | .sreZpX b => Sys2Proof.Machine.execSreZpX b s
  | .cli => Sys2Proof.Machine.execCli s
  | .eorAbsY w => Sys2Proof.Machine.execEorAbsY w s
  | .nop5A => Sys2Proof.Machine.execNop5A s
  | .sreAbsY w => Sys2Proof.Machine.execSreAbsY w s
  | .nop5C w => Sys2Proof.Machine.execNop5C w s
  | .eorAbsX w => Sys2Proof.Machine.execEorAbsX w s
  | .lsrAbsX w => Sys2Proof.Machine.execLsrAbsX w s
  | .sreAbsX w => Sys2Proof.Machine.execSreAbsX w s
  | .rts => Sys2Proof.Machine.execRts s
  | .adcIndX b => Sys2Proof.Machine.execAdcIndX b s
  | .jam62 => Sys2Proof.Machine.execJam62 s
  | .rraIndX b => Sys2Proof.Machine.execRraIndX b s
  | .nop64 b => Sys2Proof.Machine.execNop64 b s
  | .adcZp b => Sys2Proof.Machine.execAdcZp b s
  | .rorZp b => Sys2Proof.Machine.execRorZp b s
  | .rraZp b => Sys2Proof.Machine.execRraZp b s
  | .pla => Sys2Proof.Machine.execPla s
  | .adcImm b => Sys2Proof.Machine.execAdcImm b s
  | .rorAcc => Sys2Proof.Machine.execRorAcc s
  | .arr b => Sys2Proof.Machine.execArr b s
  | .jmpInd w => Sys2Proof.Machine.execJmpInd w s
  | .adcAbs w => Sys2Proof.Machine.execAdcAbs w s
  | .rorAbs w => Sys2Proof.Machine.execRorAbs w s
  | .rraAbs w => Sys2Proof.Machine.execRraAbs w s
  | .bvs b => Sys2Proof.Machine.execBvs b s
  | .adcIndY b => Sys2Proof.Machine.execAdcIndY b s
  | .jam72 => Sys2Proof.Machine.execJam72 s
  | .rraIndY b => Sys2Proof.Machine.execRraIndY b s
  | .nop74 b => Sys2Proof.Machine.execNop74 b s
  | .adcZpX b => Sys2Proof.Machine.execAdcZpX b s
  | .rorZpX b => Sys2Proof.Machine.execRorZpX b s
  | .rraZpX b => Sys2Proof.Machine.execRraZpX b s
  | .sei => Sys2Proof.Machine.execSei s
  | .adcAbsY w => Sys2Proof.Machine.execAdcAbsY w s
  | .nop7A => Sys2Proof.Machine.execNop7A s
  | .rraAbsY w => Sys2Proof.Machine.execRraAbsY w s
  | .nop7C w => Sys2Proof.Machine.execNop7C w s
  | .adcAbsX w => Sys2Proof.Machine.execAdcAbsX w s
  | .rorAbsX w => Sys2Proof.Machine.execRorAbsX w s
  | .rraAbsX w => Sys2Proof.Machine.execRraAbsX w s
  | .nop80 b => Sys2Proof.Machine.execNop80 b s
  | .staIndX b => Sys2Proof.Machine.execStaIndX b s
  | .nop82 b => Sys2Proof.Machine.execNop82 b s
  | .saxIndX b => Sys2Proof.Machine.execSaxIndX b s
  | .styZp b => Sys2Proof.Machine.execStyZp b s
  | .staZp b => Sys2Proof.Machine.execStaZp b s
  | .stxZp b => Sys2Proof.Machine.execStxZp b s
  | .saxZp b => Sys2Proof.Machine.execSaxZp b s
  | .dey => Sys2Proof.Machine.execDey s
  | .nop89 b => Sys2Proof.Machine.execNop89 b s
  | .txa => Sys2Proof.Machine.execTxa s
  | .ane b => Sys2Proof.Machine.execAne b s
  | .styAbs w => Sys2Proof.Machine.execStyAbs w s
  | .staAbs w => Sys2Proof.Machine.execStaAbs w s
  | .stxAbs w => Sys2Proof.Machine.execStxAbs w s
  | .saxAbs w => Sys2Proof.Machine.execSaxAbs w s
  | .bcc b => Sys2Proof.Machine.execBcc b s
  | .staIndY b => Sys2Proof.Machine.execStaIndY b s
  | .jam92 => Sys2Proof.Machine.execJam92 s
  | .shaIndY b => Sys2Proof.Machine.execShaIndY b s
  | .styZpX b => Sys2Proof.Machine.execStyZpX b s
  | .staZpX b => Sys2Proof.Machine.execStaZpX b s
  | .stxZpY b => Sys2Proof.Machine.execStxZpY b s
  | .saxZpY b => Sys2Proof.Machine.execSaxZpY b s
  | .tya => Sys2Proof.Machine.execTya s
  | .staAbsY w => Sys2Proof.Machine.execStaAbsY w s
  | .txs => Sys2Proof.Machine.execTxs s
  | .tas w => Sys2Proof.Machine.execTas w s
  | .shy w => Sys2Proof.Machine.execShy w s
  | .staAbsX w => Sys2Proof.Machine.execStaAbsX w s
  | .shx w => Sys2Proof.Machine.execShx w s
  | .shaAbsY w => Sys2Proof.Machine.execShaAbsY w s
  | .ldyImm b => Sys2Proof.Machine.execLdyImm b s
  | .ldaIndX b => Sys2Proof.Machine.execLdaIndX b s
  | .ldxImm b => Sys2Proof.Machine.execLdxImm b s
  | .laxIndX b => Sys2Proof.Machine.execLaxIndX b s
  | .ldyZp b => Sys2Proof.Machine.execLdyZp b s
  | .ldaZp b => Sys2Proof.Machine.execLdaZp b s
  | .ldxZp b => Sys2Proof.Machine.execLdxZp b s
  | .laxZp b => Sys2Proof.Machine.execLaxZp b s
  | .tay => Sys2Proof.Machine.execTay s
  | .ldaImm b => Sys2Proof.Machine.execLdaImm b s
  | .tax => Sys2Proof.Machine.execTax s
  | .lxa b => Sys2Proof.Machine.execLxa b s
  | .ldyAbs w => Sys2Proof.Machine.execLdyAbs w s
  | .ldaAbs w => Sys2Proof.Machine.execLdaAbs w s
  | .ldxAbs w => Sys2Proof.Machine.execLdxAbs w s
  | .laxAbs w => Sys2Proof.Machine.execLaxAbs w s
  | .bcs b => Sys2Proof.Machine.execBcs b s
  | .ldaIndY b => Sys2Proof.Machine.execLdaIndY b s
  | .jamB2 => Sys2Proof.Machine.execJamB2 s
  | .laxIndY b => Sys2Proof.Machine.execLaxIndY b s
  | .ldyZpX b => Sys2Proof.Machine.execLdyZpX b s
  | .ldaZpX b => Sys2Proof.Machine.execLdaZpX b s
  | .ldxZpY b => Sys2Proof.Machine.execLdxZpY b s
  | .laxZpY b => Sys2Proof.Machine.execLaxZpY b s
  | .clv => Sys2Proof.Machine.execClv s
  | .ldaAbsY w => Sys2Proof.Machine.execLdaAbsY w s
  | .tsx => Sys2Proof.Machine.execTsx s
  | .las w => Sys2Proof.Machine.execLas w s
  | .ldyAbsX w => Sys2Proof.Machine.execLdyAbsX w s
  | .ldaAbsX w => Sys2Proof.Machine.execLdaAbsX w s
  | .ldxAbsY w => Sys2Proof.Machine.execLdxAbsY w s
  | .laxAbsY w => Sys2Proof.Machine.execLaxAbsY w s
  | .cpyImm b => Sys2Proof.Machine.execCpyImm b s
  | .cmpIndX b => Sys2Proof.Machine.execCmpIndX b s
  | .nopC2 b => Sys2Proof.Machine.execNopC2 b s
  | .dcpIndX b => Sys2Proof.Machine.execDcpIndX b s
  | .cpyZp b => Sys2Proof.Machine.execCpyZp b s
  | .cmpZp b => Sys2Proof.Machine.execCmpZp b s
  | .decZp b => Sys2Proof.Machine.execDecZp b s
  | .dcpZp b => Sys2Proof.Machine.execDcpZp b s
  | .iny => Sys2Proof.Machine.execIny s
  | .cmpImm b => Sys2Proof.Machine.execCmpImm b s
  | .dex => Sys2Proof.Machine.execDex s
  | .axs b => Sys2Proof.Machine.execAxs b s
  | .cpyAbs w => Sys2Proof.Machine.execCpyAbs w s
  | .cmpAbs w => Sys2Proof.Machine.execCmpAbs w s
  | .decAbs w => Sys2Proof.Machine.execDecAbs w s
  | .dcpAbs w => Sys2Proof.Machine.execDcpAbs w s
  | .bne b => Sys2Proof.Machine.execBne b s
  | .cmpIndY b => Sys2Proof.Machine.execCmpIndY b s
  | .jamD2 => Sys2Proof.Machine.execJamD2 s
  | .dcpIndY b => Sys2Proof.Machine.execDcpIndY b s
  | .nopD4 b => Sys2Proof.Machine.execNopD4 b s
  | .cmpZpX b => Sys2Proof.Machine.execCmpZpX b s
  | .decZpX b => Sys2Proof.Machine.execDecZpX b s
  | .dcpZpX b => Sys2Proof.Machine.execDcpZpX b s
  | .cld => Sys2Proof.Machine.execCld s
  | .cmpAbsY w => Sys2Proof.Machine.execCmpAbsY w s
  | .nopDA => Sys2Proof.Machine.execNopDA s
  | .dcpAbsY w => Sys2Proof.Machine.execDcpAbsY w s
  | .nopDC w => Sys2Proof.Machine.execNopDC w s
  | .cmpAbsX w => Sys2Proof.Machine.execCmpAbsX w s
  | .decAbsX w => Sys2Proof.Machine.execDecAbsX w s
  | .dcpAbsX w => Sys2Proof.Machine.execDcpAbsX w s
  | .cpxImm b => Sys2Proof.Machine.execCpxImm b s
  | .sbcIndX b => Sys2Proof.Machine.execSbcIndX b s
  | .nopE2 b => Sys2Proof.Machine.execNopE2 b s
  | .iscIndX b => Sys2Proof.Machine.execIscIndX b s
  | .cpxZp b => Sys2Proof.Machine.execCpxZp b s
  | .sbcZp b => Sys2Proof.Machine.execSbcZp b s
  | .incZp b => Sys2Proof.Machine.execIncZp b s
  | .iscZp b => Sys2Proof.Machine.execIscZp b s
  | .inx => Sys2Proof.Machine.execInx s
  | .sbcImm b => Sys2Proof.Machine.execSbcImm b s
  | .nop => Sys2Proof.Machine.execNop s
  | .sbcEB b => Sys2Proof.Machine.execSbcEB b s
  | .cpxAbs w => Sys2Proof.Machine.execCpxAbs w s
  | .sbcAbs w => Sys2Proof.Machine.execSbcAbs w s
  | .incAbs w => Sys2Proof.Machine.execIncAbs w s
  | .iscAbs w => Sys2Proof.Machine.execIscAbs w s
  | .beq b => Sys2Proof.Machine.execBeq b s
  | .sbcIndY b => Sys2Proof.Machine.execSbcIndY b s
  | .jamF2 => Sys2Proof.Machine.execJamF2 s
  | .iscIndY b => Sys2Proof.Machine.execIscIndY b s
  | .nopF4 b => Sys2Proof.Machine.execNopF4 b s
  | .sbcZpX b => Sys2Proof.Machine.execSbcZpX b s
  | .incZpX b => Sys2Proof.Machine.execIncZpX b s
  | .iscZpX b => Sys2Proof.Machine.execIscZpX b s
  | .sed => Sys2Proof.Machine.execSed s
  | .sbcAbsY w => Sys2Proof.Machine.execSbcAbsY w s
  | .nopFA => Sys2Proof.Machine.execNopFA s
  | .iscAbsY w => Sys2Proof.Machine.execIscAbsY w s
  | .nopFC w => Sys2Proof.Machine.execNopFC w s
  | .sbcAbsX w => Sys2Proof.Machine.execSbcAbsX w s
  | .incAbsX w => Sys2Proof.Machine.execIncAbsX w s
  | .iscAbsX w => Sys2Proof.Machine.execIscAbsX w s

end Sys2Proof.Machine
end

