-- ==== Sys2Proof/WellFormed.lean ====
section
/-! DEFINITION. What makes a row of the opcode table and an instruction's bytes well formed. An `Instr` carries operands
of exactly the width its encoding gives them, so what is left to check is that the table's rows keep the laws the spec
states of all of them, and that a string of bytes is as long as its row says. -/

namespace Sys2Proof

/-- The instruction's length in bytes, which the addressing mode alone gives (30_encoding.md R82). -/
def AddrMode.length : AddrMode → Nat
  | .implied | .accumulator => 1
  | .immediate | .zeroPage | .zeroPageX | .zeroPageY | .indexedIndirect | .indirectIndexed | .relative => 2
  | .absolute | .absoluteX | .absoluteY | .indirect => 3

/-- Whether indexing in this mode can cross a page: its operand may be `Mem(ea, 1)` (40_addressing.md R109 to R111). -/
def AddrMode.mayCross : AddrMode → Bool
  | .absoluteX | .absoluteY | .indirectIndexed => true
  | .implied | .accumulator | .immediate | .zeroPage | .zeroPageX | .zeroPageY | .absolute | .indirect
  | .indexedIndirect | .relative => false

/-- Exactly the read-class rows whose mode can cross a page pay the page-cross penalty (R114). -/
def Row.penaltyOk (r : Row) : Bool := r.pagePenalty == (r.access == .read && r.mode.mayCross)

/-- Exactly the branches have relative mode (R112, R115). -/
def Row.relativeOk (r : Row) : Bool := (r.mode == .relative) == (r.access == .branch)

/-- Accumulator mode makes no bus access after the opcode (R102, R115). -/
def Row.accumulatorOk (r : Row) : Bool := r.mode != .accumulator || r.access == .none

/-- Indirect mode is a jump's (R113). -/
def Row.indirectOk (r : Row) : Bool := r.mode != .indirect || r.access == .jump

/-- A row that stores has an operand in memory (R115). -/
def Row.storeOk (r : Row) : Bool :=
  !(r.access == .write || r.access == .rmw) || !(r.mode == .immediate || r.mode == .implied)

/-- Exactly JAM has no cycle cost (70_reset_and_hazards.md R308). -/
def Row.cyclesOk (r : Row) : Bool := r.cycles.isNone == (r.cls == .jam)

/-- All laws of a row. -/
def Row.wellFormed (r : Row) : Bool :=
  r.penaltyOk && r.relativeOk && r.accumulatorOk && r.indirectOk && r.storeOk && r.cyclesOk

/-- A string of bytes has exactly the length its row gives: not truncated, nothing after the operand (R82). -/
def Row.fits (r : Row) (bytes : List Byte) : Bool := bytes.length == r.mode.length

end Sys2Proof
end

