-- ==== Sys2Proof/Decode.lean ====
section
/-! DEFINITION. The decoder, total on every string of bytes; the encoder; and the opcode table as data. Each is written
one row of the opcode map (30_encoding.md R84) at a time. -/

namespace Sys2Proof

/-! ## The decoder -/

/-- What an opcode byte leaves to be read: nothing, one operand byte, or a little-endian address (R82, R86). -/
inductive Form
  | f1 (i : Instr)
  | f2 (mk : Byte → Instr)
  | f3 (mk : Addr → Instr)

/-- Why a string of bytes is no instruction. No opcode byte is undefined (R81, R87). -/
inductive DecodeError
  /-- There is no opcode byte. -/
  | empty
  /-- The operand bytes of this opcode are missing. -/
  | truncated (op : Byte)
deriving DecidableEq, Repr

/-- Row 0x of the opcode map (R84), by the low digit. -/
def opcodeMap0 : Nat → Form
  | 0x0 => .f1 .brk
  | 0x1 => .f2 .oraIndX
  | 0x2 => .f1 .jam02
  | 0x3 => .f2 .sloIndX
  | 0x4 => .f2 .nop04
  | 0x5 => .f2 .oraZp
  | 0x6 => .f2 .aslZp
  | 0x7 => .f2 .sloZp
  | 0x8 => .f1 .php
  | 0x9 => .f2 .oraImm
  | 0xA => .f1 .aslAcc
  | 0xB => .f2 .anc0B
  | 0xC => .f3 .nop0C
  | 0xD => .f3 .oraAbs
  | 0xE => .f3 .aslAbs
  | _ => .f3 .sloAbs

/-- Row 1x of the opcode map (R84), by the low digit. -/
def opcodeMap1 : Nat → Form
  | 0x0 => .f2 .bpl
  | 0x1 => .f2 .oraIndY
  | 0x2 => .f1 .jam12
  | 0x3 => .f2 .sloIndY
  | 0x4 => .f2 .nop14
  | 0x5 => .f2 .oraZpX
  | 0x6 => .f2 .aslZpX
  | 0x7 => .f2 .sloZpX
  | 0x8 => .f1 .clc
  | 0x9 => .f3 .oraAbsY
  | 0xA => .f1 .nop1A
  | 0xB => .f3 .sloAbsY
  | 0xC => .f3 .nop1C
  | 0xD => .f3 .oraAbsX
  | 0xE => .f3 .aslAbsX
  | _ => .f3 .sloAbsX

/-- Row 2x of the opcode map (R84), by the low digit. -/
def opcodeMap2 : Nat → Form
  | 0x0 => .f3 .jsr
  | 0x1 => .f2 .andIndX
  | 0x2 => .f1 .jam22
  | 0x3 => .f2 .rlaIndX
  | 0x4 => .f2 .bitZp
  | 0x5 => .f2 .andZp
  | 0x6 => .f2 .rolZp
  | 0x7 => .f2 .rlaZp
  | 0x8 => .f1 .plp
  | 0x9 => .f2 .andImm
  | 0xA => .f1 .rolAcc
  | 0xB => .f2 .anc2B
  | 0xC => .f3 .bitAbs
  | 0xD => .f3 .andAbs
  | 0xE => .f3 .rolAbs
  | _ => .f3 .rlaAbs

/-- Row 3x of the opcode map (R84), by the low digit. -/
def opcodeMap3 : Nat → Form
  | 0x0 => .f2 .bmi
  | 0x1 => .f2 .andIndY
  | 0x2 => .f1 .jam32
  | 0x3 => .f2 .rlaIndY
  | 0x4 => .f2 .nop34
  | 0x5 => .f2 .andZpX
  | 0x6 => .f2 .rolZpX
  | 0x7 => .f2 .rlaZpX
  | 0x8 => .f1 .sec
  | 0x9 => .f3 .andAbsY
  | 0xA => .f1 .nop3A
  | 0xB => .f3 .rlaAbsY
  | 0xC => .f3 .nop3C
  | 0xD => .f3 .andAbsX
  | 0xE => .f3 .rolAbsX
  | _ => .f3 .rlaAbsX

/-- Row 4x of the opcode map (R84), by the low digit. -/
def opcodeMap4 : Nat → Form
  | 0x0 => .f1 .rti
  | 0x1 => .f2 .eorIndX
  | 0x2 => .f1 .jam42
  | 0x3 => .f2 .sreIndX
  | 0x4 => .f2 .nop44
  | 0x5 => .f2 .eorZp
  | 0x6 => .f2 .lsrZp
  | 0x7 => .f2 .sreZp
  | 0x8 => .f1 .pha
  | 0x9 => .f2 .eorImm
  | 0xA => .f1 .lsrAcc
  | 0xB => .f2 .alr
  | 0xC => .f3 .jmpAbs
  | 0xD => .f3 .eorAbs
  | 0xE => .f3 .lsrAbs
  | _ => .f3 .sreAbs

/-- Row 5x of the opcode map (R84), by the low digit. -/
def opcodeMap5 : Nat → Form
  | 0x0 => .f2 .bvc
  | 0x1 => .f2 .eorIndY
  | 0x2 => .f1 .jam52
  | 0x3 => .f2 .sreIndY
  | 0x4 => .f2 .nop54
  | 0x5 => .f2 .eorZpX
  | 0x6 => .f2 .lsrZpX
  | 0x7 => .f2 .sreZpX
  | 0x8 => .f1 .cli
  | 0x9 => .f3 .eorAbsY
  | 0xA => .f1 .nop5A
  | 0xB => .f3 .sreAbsY
  | 0xC => .f3 .nop5C
  | 0xD => .f3 .eorAbsX
  | 0xE => .f3 .lsrAbsX
  | _ => .f3 .sreAbsX

/-- Row 6x of the opcode map (R84), by the low digit. -/
def opcodeMap6 : Nat → Form
  | 0x0 => .f1 .rts
  | 0x1 => .f2 .adcIndX
  | 0x2 => .f1 .jam62
  | 0x3 => .f2 .rraIndX
  | 0x4 => .f2 .nop64
  | 0x5 => .f2 .adcZp
  | 0x6 => .f2 .rorZp
  | 0x7 => .f2 .rraZp
  | 0x8 => .f1 .pla
  | 0x9 => .f2 .adcImm
  | 0xA => .f1 .rorAcc
  | 0xB => .f2 .arr
  | 0xC => .f3 .jmpInd
  | 0xD => .f3 .adcAbs
  | 0xE => .f3 .rorAbs
  | _ => .f3 .rraAbs

/-- Row 7x of the opcode map (R84), by the low digit. -/
def opcodeMap7 : Nat → Form
  | 0x0 => .f2 .bvs
  | 0x1 => .f2 .adcIndY
  | 0x2 => .f1 .jam72
  | 0x3 => .f2 .rraIndY
  | 0x4 => .f2 .nop74
  | 0x5 => .f2 .adcZpX
  | 0x6 => .f2 .rorZpX
  | 0x7 => .f2 .rraZpX
  | 0x8 => .f1 .sei
  | 0x9 => .f3 .adcAbsY
  | 0xA => .f1 .nop7A
  | 0xB => .f3 .rraAbsY
  | 0xC => .f3 .nop7C
  | 0xD => .f3 .adcAbsX
  | 0xE => .f3 .rorAbsX
  | _ => .f3 .rraAbsX

/-- Row 8x of the opcode map (R84), by the low digit. -/
def opcodeMap8 : Nat → Form
  | 0x0 => .f2 .nop80
  | 0x1 => .f2 .staIndX
  | 0x2 => .f2 .nop82
  | 0x3 => .f2 .saxIndX
  | 0x4 => .f2 .styZp
  | 0x5 => .f2 .staZp
  | 0x6 => .f2 .stxZp
  | 0x7 => .f2 .saxZp
  | 0x8 => .f1 .dey
  | 0x9 => .f2 .nop89
  | 0xA => .f1 .txa
  | 0xB => .f2 .ane
  | 0xC => .f3 .styAbs
  | 0xD => .f3 .staAbs
  | 0xE => .f3 .stxAbs
  | _ => .f3 .saxAbs

/-- Row 9x of the opcode map (R84), by the low digit. -/
def opcodeMap9 : Nat → Form
  | 0x0 => .f2 .bcc
  | 0x1 => .f2 .staIndY
  | 0x2 => .f1 .jam92
  | 0x3 => .f2 .shaIndY
  | 0x4 => .f2 .styZpX
  | 0x5 => .f2 .staZpX
  | 0x6 => .f2 .stxZpY
  | 0x7 => .f2 .saxZpY
  | 0x8 => .f1 .tya
  | 0x9 => .f3 .staAbsY
  | 0xA => .f1 .txs
  | 0xB => .f3 .tas
  | 0xC => .f3 .shy
  | 0xD => .f3 .staAbsX
  | 0xE => .f3 .shx
  | _ => .f3 .shaAbsY

/-- Row Ax of the opcode map (R84), by the low digit. -/
def opcodeMapA : Nat → Form
  | 0x0 => .f2 .ldyImm
  | 0x1 => .f2 .ldaIndX
  | 0x2 => .f2 .ldxImm
  | 0x3 => .f2 .laxIndX
  | 0x4 => .f2 .ldyZp
  | 0x5 => .f2 .ldaZp
  | 0x6 => .f2 .ldxZp
  | 0x7 => .f2 .laxZp
  | 0x8 => .f1 .tay
  | 0x9 => .f2 .ldaImm
  | 0xA => .f1 .tax
  | 0xB => .f2 .lxa
  | 0xC => .f3 .ldyAbs
  | 0xD => .f3 .ldaAbs
  | 0xE => .f3 .ldxAbs
  | _ => .f3 .laxAbs

/-- Row Bx of the opcode map (R84), by the low digit. -/
def opcodeMapB : Nat → Form
  | 0x0 => .f2 .bcs
  | 0x1 => .f2 .ldaIndY
  | 0x2 => .f1 .jamB2
  | 0x3 => .f2 .laxIndY
  | 0x4 => .f2 .ldyZpX
  | 0x5 => .f2 .ldaZpX
  | 0x6 => .f2 .ldxZpY
  | 0x7 => .f2 .laxZpY
  | 0x8 => .f1 .clv
  | 0x9 => .f3 .ldaAbsY
  | 0xA => .f1 .tsx
  | 0xB => .f3 .las
  | 0xC => .f3 .ldyAbsX
  | 0xD => .f3 .ldaAbsX
  | 0xE => .f3 .ldxAbsY
  | _ => .f3 .laxAbsY

/-- Row Cx of the opcode map (R84), by the low digit. -/
def opcodeMapC : Nat → Form
  | 0x0 => .f2 .cpyImm
  | 0x1 => .f2 .cmpIndX
  | 0x2 => .f2 .nopC2
  | 0x3 => .f2 .dcpIndX
  | 0x4 => .f2 .cpyZp
  | 0x5 => .f2 .cmpZp
  | 0x6 => .f2 .decZp
  | 0x7 => .f2 .dcpZp
  | 0x8 => .f1 .iny
  | 0x9 => .f2 .cmpImm
  | 0xA => .f1 .dex
  | 0xB => .f2 .axs
  | 0xC => .f3 .cpyAbs
  | 0xD => .f3 .cmpAbs
  | 0xE => .f3 .decAbs
  | _ => .f3 .dcpAbs

/-- Row Dx of the opcode map (R84), by the low digit. -/
def opcodeMapD : Nat → Form
  | 0x0 => .f2 .bne
  | 0x1 => .f2 .cmpIndY
  | 0x2 => .f1 .jamD2
  | 0x3 => .f2 .dcpIndY
  | 0x4 => .f2 .nopD4
  | 0x5 => .f2 .cmpZpX
  | 0x6 => .f2 .decZpX
  | 0x7 => .f2 .dcpZpX
  | 0x8 => .f1 .cld
  | 0x9 => .f3 .cmpAbsY
  | 0xA => .f1 .nopDA
  | 0xB => .f3 .dcpAbsY
  | 0xC => .f3 .nopDC
  | 0xD => .f3 .cmpAbsX
  | 0xE => .f3 .decAbsX
  | _ => .f3 .dcpAbsX

/-- Row Ex of the opcode map (R84), by the low digit. -/
def opcodeMapE : Nat → Form
  | 0x0 => .f2 .cpxImm
  | 0x1 => .f2 .sbcIndX
  | 0x2 => .f2 .nopE2
  | 0x3 => .f2 .iscIndX
  | 0x4 => .f2 .cpxZp
  | 0x5 => .f2 .sbcZp
  | 0x6 => .f2 .incZp
  | 0x7 => .f2 .iscZp
  | 0x8 => .f1 .inx
  | 0x9 => .f2 .sbcImm
  | 0xA => .f1 .nop
  | 0xB => .f2 .sbcEB
  | 0xC => .f3 .cpxAbs
  | 0xD => .f3 .sbcAbs
  | 0xE => .f3 .incAbs
  | _ => .f3 .iscAbs

/-- Row Fx of the opcode map (R84), by the low digit. -/
def opcodeMapF : Nat → Form
  | 0x0 => .f2 .beq
  | 0x1 => .f2 .sbcIndY
  | 0x2 => .f1 .jamF2
  | 0x3 => .f2 .iscIndY
  | 0x4 => .f2 .nopF4
  | 0x5 => .f2 .sbcZpX
  | 0x6 => .f2 .incZpX
  | 0x7 => .f2 .iscZpX
  | 0x8 => .f1 .sed
  | 0x9 => .f3 .sbcAbsY
  | 0xA => .f1 .nopFA
  | 0xB => .f3 .iscAbsY
  | 0xC => .f3 .nopFC
  | 0xD => .f3 .sbcAbsX
  | 0xE => .f3 .incAbsX
  | _ => .f3 .iscAbsX

/-- The opcode map (R84): every byte selects exactly one row (R81). -/
def opcodeForm (op : Byte) : Form :=
  match op.toNat / 16 with
  | 0x0 => opcodeMap0 (op.toNat % 16)
  | 0x1 => opcodeMap1 (op.toNat % 16)
  | 0x2 => opcodeMap2 (op.toNat % 16)
  | 0x3 => opcodeMap3 (op.toNat % 16)
  | 0x4 => opcodeMap4 (op.toNat % 16)
  | 0x5 => opcodeMap5 (op.toNat % 16)
  | 0x6 => opcodeMap6 (op.toNat % 16)
  | 0x7 => opcodeMap7 (op.toNat % 16)
  | 0x8 => opcodeMap8 (op.toNat % 16)
  | 0x9 => opcodeMap9 (op.toNat % 16)
  | 0xA => opcodeMapA (op.toNat % 16)
  | 0xB => opcodeMapB (op.toNat % 16)
  | 0xC => opcodeMapC (op.toNat % 16)
  | 0xD => opcodeMapD (op.toNat % 16)
  | 0xE => opcodeMapE (op.toNat % 16)
  | _ => opcodeMapF (op.toNat % 16)

/-- The length in bytes of the instruction this opcode begins (R82). -/
def Form.length : Form → Nat
  | .f1 _ => 1
  | .f2 _ => 2
  | .f3 _ => 3

/-- Reads one instruction off the front of a string of bytes, and answers the rest with it. -/
def decode : List Byte → Except DecodeError (Instr × List Byte)
  | [] => .error .empty
  | op :: rest =>
    match opcodeForm op, rest with
    | .f1 i, rest => .ok (i, rest)
    | .f2 mk, b :: rest => .ok (mk b, rest)
    | .f3 mk, lo :: hi :: rest => .ok (mk (word hi lo), rest)
    | _, _ => .error (.truncated op)

/-- The bytes of `w`, first byte in bits 7:0, `n` of them. -/
def bytesOfNat : Nat → Nat → List Byte
  | 0, _ => []
  | n + 1, w => BitVec.ofNat 8 w :: bytesOfNat n (w / 256)

/-- The instruction the decoder reads from bits numbered as spec/opcode_table.json numbers them (byte 0 is bits 7:0,
byte 1 bits 15:8, byte 2 bits 23:16). Bits from `nbits` on are 0. -/
def decodeTableWord (nbits w : Nat) : Option Instr :=
  match decode (bytesOfNat 3 (w % 2 ^ nbits)) with
  | .ok (i, _) => some i
  | .error _ => none

/-! ## The encoder -/

/-- Format F3's operand: the low byte first (R60, R82). -/
def leBytes (w : Addr) : List Byte := [loByte w, hiByte w]

/-- The bytes of an instruction, byte 0 first (R82, R84, R86). -/
def encode : Instr → List Byte
  | .brk => [0x00]
  | .oraIndX b => [0x01, b]
  | .jam02 => [0x02]
  | .sloIndX b => [0x03, b]
  | .nop04 b => [0x04, b]
  | .oraZp b => [0x05, b]
  | .aslZp b => [0x06, b]
  | .sloZp b => [0x07, b]
  | .php => [0x08]
  | .oraImm b => [0x09, b]
  | .aslAcc => [0x0A]
  | .anc0B b => [0x0B, b]
  | .nop0C w => 0x0C :: leBytes w
  | .oraAbs w => 0x0D :: leBytes w
  | .aslAbs w => 0x0E :: leBytes w
  | .sloAbs w => 0x0F :: leBytes w
  | .bpl b => [0x10, b]
  | .oraIndY b => [0x11, b]
  | .jam12 => [0x12]
  | .sloIndY b => [0x13, b]
  | .nop14 b => [0x14, b]
  | .oraZpX b => [0x15, b]
  | .aslZpX b => [0x16, b]
  | .sloZpX b => [0x17, b]
  | .clc => [0x18]
  | .oraAbsY w => 0x19 :: leBytes w
  | .nop1A => [0x1A]
  | .sloAbsY w => 0x1B :: leBytes w
  | .nop1C w => 0x1C :: leBytes w
  | .oraAbsX w => 0x1D :: leBytes w
  | .aslAbsX w => 0x1E :: leBytes w
  | .sloAbsX w => 0x1F :: leBytes w
  | .jsr w => 0x20 :: leBytes w
  | .andIndX b => [0x21, b]
  | .jam22 => [0x22]
  | .rlaIndX b => [0x23, b]
  | .bitZp b => [0x24, b]
  | .andZp b => [0x25, b]
  | .rolZp b => [0x26, b]
  | .rlaZp b => [0x27, b]
  | .plp => [0x28]
  | .andImm b => [0x29, b]
  | .rolAcc => [0x2A]
  | .anc2B b => [0x2B, b]
  | .bitAbs w => 0x2C :: leBytes w
  | .andAbs w => 0x2D :: leBytes w
  | .rolAbs w => 0x2E :: leBytes w
  | .rlaAbs w => 0x2F :: leBytes w
  | .bmi b => [0x30, b]
  | .andIndY b => [0x31, b]
  | .jam32 => [0x32]
  | .rlaIndY b => [0x33, b]
  | .nop34 b => [0x34, b]
  | .andZpX b => [0x35, b]
  | .rolZpX b => [0x36, b]
  | .rlaZpX b => [0x37, b]
  | .sec => [0x38]
  | .andAbsY w => 0x39 :: leBytes w
  | .nop3A => [0x3A]
  | .rlaAbsY w => 0x3B :: leBytes w
  | .nop3C w => 0x3C :: leBytes w
  | .andAbsX w => 0x3D :: leBytes w
  | .rolAbsX w => 0x3E :: leBytes w
  | .rlaAbsX w => 0x3F :: leBytes w
  | .rti => [0x40]
  | .eorIndX b => [0x41, b]
  | .jam42 => [0x42]
  | .sreIndX b => [0x43, b]
  | .nop44 b => [0x44, b]
  | .eorZp b => [0x45, b]
  | .lsrZp b => [0x46, b]
  | .sreZp b => [0x47, b]
  | .pha => [0x48]
  | .eorImm b => [0x49, b]
  | .lsrAcc => [0x4A]
  | .alr b => [0x4B, b]
  | .jmpAbs w => 0x4C :: leBytes w
  | .eorAbs w => 0x4D :: leBytes w
  | .lsrAbs w => 0x4E :: leBytes w
  | .sreAbs w => 0x4F :: leBytes w
  | .bvc b => [0x50, b]
  | .eorIndY b => [0x51, b]
  | .jam52 => [0x52]
  | .sreIndY b => [0x53, b]
  | .nop54 b => [0x54, b]
  | .eorZpX b => [0x55, b]
  | .lsrZpX b => [0x56, b]
  | .sreZpX b => [0x57, b]
  | .cli => [0x58]
  | .eorAbsY w => 0x59 :: leBytes w
  | .nop5A => [0x5A]
  | .sreAbsY w => 0x5B :: leBytes w
  | .nop5C w => 0x5C :: leBytes w
  | .eorAbsX w => 0x5D :: leBytes w
  | .lsrAbsX w => 0x5E :: leBytes w
  | .sreAbsX w => 0x5F :: leBytes w
  | .rts => [0x60]
  | .adcIndX b => [0x61, b]
  | .jam62 => [0x62]
  | .rraIndX b => [0x63, b]
  | .nop64 b => [0x64, b]
  | .adcZp b => [0x65, b]
  | .rorZp b => [0x66, b]
  | .rraZp b => [0x67, b]
  | .pla => [0x68]
  | .adcImm b => [0x69, b]
  | .rorAcc => [0x6A]
  | .arr b => [0x6B, b]
  | .jmpInd w => 0x6C :: leBytes w
  | .adcAbs w => 0x6D :: leBytes w
  | .rorAbs w => 0x6E :: leBytes w
  | .rraAbs w => 0x6F :: leBytes w
  | .bvs b => [0x70, b]
  | .adcIndY b => [0x71, b]
  | .jam72 => [0x72]
  | .rraIndY b => [0x73, b]
  | .nop74 b => [0x74, b]
  | .adcZpX b => [0x75, b]
  | .rorZpX b => [0x76, b]
  | .rraZpX b => [0x77, b]
  | .sei => [0x78]
  | .adcAbsY w => 0x79 :: leBytes w
  | .nop7A => [0x7A]
  | .rraAbsY w => 0x7B :: leBytes w
  | .nop7C w => 0x7C :: leBytes w
  | .adcAbsX w => 0x7D :: leBytes w
  | .rorAbsX w => 0x7E :: leBytes w
  | .rraAbsX w => 0x7F :: leBytes w
  | .nop80 b => [0x80, b]
  | .staIndX b => [0x81, b]
  | .nop82 b => [0x82, b]
  | .saxIndX b => [0x83, b]
  | .styZp b => [0x84, b]
  | .staZp b => [0x85, b]
  | .stxZp b => [0x86, b]
  | .saxZp b => [0x87, b]
  | .dey => [0x88]
  | .nop89 b => [0x89, b]
  | .txa => [0x8A]
  | .ane b => [0x8B, b]
  | .styAbs w => 0x8C :: leBytes w
  | .staAbs w => 0x8D :: leBytes w
  | .stxAbs w => 0x8E :: leBytes w
  | .saxAbs w => 0x8F :: leBytes w
  | .bcc b => [0x90, b]
  | .staIndY b => [0x91, b]
  | .jam92 => [0x92]
  | .shaIndY b => [0x93, b]
  | .styZpX b => [0x94, b]
  | .staZpX b => [0x95, b]
  | .stxZpY b => [0x96, b]
  | .saxZpY b => [0x97, b]
  | .tya => [0x98]
  | .staAbsY w => 0x99 :: leBytes w
  | .txs => [0x9A]
  | .tas w => 0x9B :: leBytes w
  | .shy w => 0x9C :: leBytes w
  | .staAbsX w => 0x9D :: leBytes w
  | .shx w => 0x9E :: leBytes w
  | .shaAbsY w => 0x9F :: leBytes w
  | .ldyImm b => [0xA0, b]
  | .ldaIndX b => [0xA1, b]
  | .ldxImm b => [0xA2, b]
  | .laxIndX b => [0xA3, b]
  | .ldyZp b => [0xA4, b]
  | .ldaZp b => [0xA5, b]
  | .ldxZp b => [0xA6, b]
  | .laxZp b => [0xA7, b]
  | .tay => [0xA8]
  | .ldaImm b => [0xA9, b]
  | .tax => [0xAA]
  | .lxa b => [0xAB, b]
  | .ldyAbs w => 0xAC :: leBytes w
  | .ldaAbs w => 0xAD :: leBytes w
  | .ldxAbs w => 0xAE :: leBytes w
  | .laxAbs w => 0xAF :: leBytes w
  | .bcs b => [0xB0, b]
  | .ldaIndY b => [0xB1, b]
  | .jamB2 => [0xB2]
  | .laxIndY b => [0xB3, b]
  | .ldyZpX b => [0xB4, b]
  | .ldaZpX b => [0xB5, b]
  | .ldxZpY b => [0xB6, b]
  | .laxZpY b => [0xB7, b]
  | .clv => [0xB8]
  | .ldaAbsY w => 0xB9 :: leBytes w
  | .tsx => [0xBA]
  | .las w => 0xBB :: leBytes w
  | .ldyAbsX w => 0xBC :: leBytes w
  | .ldaAbsX w => 0xBD :: leBytes w
  | .ldxAbsY w => 0xBE :: leBytes w
  | .laxAbsY w => 0xBF :: leBytes w
  | .cpyImm b => [0xC0, b]
  | .cmpIndX b => [0xC1, b]
  | .nopC2 b => [0xC2, b]
  | .dcpIndX b => [0xC3, b]
  | .cpyZp b => [0xC4, b]
  | .cmpZp b => [0xC5, b]
  | .decZp b => [0xC6, b]
  | .dcpZp b => [0xC7, b]
  | .iny => [0xC8]
  | .cmpImm b => [0xC9, b]
  | .dex => [0xCA]
  | .axs b => [0xCB, b]
  | .cpyAbs w => 0xCC :: leBytes w
  | .cmpAbs w => 0xCD :: leBytes w
  | .decAbs w => 0xCE :: leBytes w
  | .dcpAbs w => 0xCF :: leBytes w
  | .bne b => [0xD0, b]
  | .cmpIndY b => [0xD1, b]
  | .jamD2 => [0xD2]
  | .dcpIndY b => [0xD3, b]
  | .nopD4 b => [0xD4, b]
  | .cmpZpX b => [0xD5, b]
  | .decZpX b => [0xD6, b]
  | .dcpZpX b => [0xD7, b]
  | .cld => [0xD8]
  | .cmpAbsY w => 0xD9 :: leBytes w
  | .nopDA => [0xDA]
  | .dcpAbsY w => 0xDB :: leBytes w
  | .nopDC w => 0xDC :: leBytes w
  | .cmpAbsX w => 0xDD :: leBytes w
  | .decAbsX w => 0xDE :: leBytes w
  | .dcpAbsX w => 0xDF :: leBytes w
  | .cpxImm b => [0xE0, b]
  | .sbcIndX b => [0xE1, b]
  | .nopE2 b => [0xE2, b]
  | .iscIndX b => [0xE3, b]
  | .cpxZp b => [0xE4, b]
  | .sbcZp b => [0xE5, b]
  | .incZp b => [0xE6, b]
  | .iscZp b => [0xE7, b]
  | .inx => [0xE8]
  | .sbcImm b => [0xE9, b]
  | .nop => [0xEA]
  | .sbcEB b => [0xEB, b]
  | .cpxAbs w => 0xEC :: leBytes w
  | .sbcAbs w => 0xED :: leBytes w
  | .incAbs w => 0xEE :: leBytes w
  | .iscAbs w => 0xEF :: leBytes w
  | .beq b => [0xF0, b]
  | .sbcIndY b => [0xF1, b]
  | .jamF2 => [0xF2]
  | .iscIndY b => [0xF3, b]
  | .nopF4 b => [0xF4, b]
  | .sbcZpX b => [0xF5, b]
  | .incZpX b => [0xF6, b]
  | .iscZpX b => [0xF7, b]
  | .sed => [0xF8]
  | .sbcAbsY w => 0xF9 :: leBytes w
  | .nopFA => [0xFA]
  | .iscAbsY w => 0xFB :: leBytes w
  | .nopFC w => 0xFC :: leBytes w
  | .sbcAbsX w => 0xFD :: leBytes w
  | .incAbsX w => 0xFE :: leBytes w
  | .iscAbsX w => 0xFF :: leBytes w

/-- The instruction's opcode byte. -/
def Instr.opcode (i : Instr) : Byte := (encode i).headD 0

/-! ## The opcode table

The rows of spec/opcode_table.json (R84, R308, R114, R115), transcribed a third time apart from the decoder and from
the meanings' own costs, so that statements can hold the three against each other. -/

/-- The table's rows 00 to 0F. -/
def opcodeRows0 : Nat → Row
  | 0x0 => ⟨"BRK", .implied, some 7, false, .stack, .official⟩
  | 0x1 => ⟨"ORA", .indexedIndirect, some 6, false, .read, .official⟩
  | 0x2 => ⟨"*JAM", .implied, none, false, .none, .jam⟩
  | 0x3 => ⟨"*SLO", .indexedIndirect, some 8, false, .rmw, .stable⟩
  | 0x4 => ⟨"*NOP", .zeroPage, some 3, false, .read, .stable⟩
  | 0x5 => ⟨"ORA", .zeroPage, some 3, false, .read, .official⟩
  | 0x6 => ⟨"ASL", .zeroPage, some 5, false, .rmw, .official⟩
  | 0x7 => ⟨"*SLO", .zeroPage, some 5, false, .rmw, .stable⟩
  | 0x8 => ⟨"PHP", .implied, some 3, false, .stack, .official⟩
  | 0x9 => ⟨"ORA", .immediate, some 2, false, .read, .official⟩
  | 0xA => ⟨"ASL", .accumulator, some 2, false, .none, .official⟩
  | 0xB => ⟨"*ANC", .immediate, some 2, false, .read, .stable⟩
  | 0xC => ⟨"*NOP", .absolute, some 4, false, .read, .stable⟩
  | 0xD => ⟨"ORA", .absolute, some 4, false, .read, .official⟩
  | 0xE => ⟨"ASL", .absolute, some 6, false, .rmw, .official⟩
  | _ => ⟨"*SLO", .absolute, some 6, false, .rmw, .stable⟩

/-- The table's rows 10 to 1F. -/
def opcodeRows1 : Nat → Row
  | 0x0 => ⟨"BPL", .relative, some 2, false, .branch, .official⟩
  | 0x1 => ⟨"ORA", .indirectIndexed, some 5, true, .read, .official⟩
  | 0x2 => ⟨"*JAM", .implied, none, false, .none, .jam⟩
  | 0x3 => ⟨"*SLO", .indirectIndexed, some 8, false, .rmw, .stable⟩
  | 0x4 => ⟨"*NOP", .zeroPageX, some 4, false, .read, .stable⟩
  | 0x5 => ⟨"ORA", .zeroPageX, some 4, false, .read, .official⟩
  | 0x6 => ⟨"ASL", .zeroPageX, some 6, false, .rmw, .official⟩
  | 0x7 => ⟨"*SLO", .zeroPageX, some 6, false, .rmw, .stable⟩
  | 0x8 => ⟨"CLC", .implied, some 2, false, .none, .official⟩
  | 0x9 => ⟨"ORA", .absoluteY, some 4, true, .read, .official⟩
  | 0xA => ⟨"*NOP", .implied, some 2, false, .none, .stable⟩
  | 0xB => ⟨"*SLO", .absoluteY, some 7, false, .rmw, .stable⟩
  | 0xC => ⟨"*NOP", .absoluteX, some 4, true, .read, .stable⟩
  | 0xD => ⟨"ORA", .absoluteX, some 4, true, .read, .official⟩
  | 0xE => ⟨"ASL", .absoluteX, some 7, false, .rmw, .official⟩
  | _ => ⟨"*SLO", .absoluteX, some 7, false, .rmw, .stable⟩

/-- The table's rows 20 to 2F. -/
def opcodeRows2 : Nat → Row
  | 0x0 => ⟨"JSR", .absolute, some 6, false, .jump, .official⟩
  | 0x1 => ⟨"AND", .indexedIndirect, some 6, false, .read, .official⟩
  | 0x2 => ⟨"*JAM", .implied, none, false, .none, .jam⟩
  | 0x3 => ⟨"*RLA", .indexedIndirect, some 8, false, .rmw, .stable⟩
  | 0x4 => ⟨"BIT", .zeroPage, some 3, false, .read, .official⟩
  | 0x5 => ⟨"AND", .zeroPage, some 3, false, .read, .official⟩
  | 0x6 => ⟨"ROL", .zeroPage, some 5, false, .rmw, .official⟩
  | 0x7 => ⟨"*RLA", .zeroPage, some 5, false, .rmw, .stable⟩
  | 0x8 => ⟨"PLP", .implied, some 4, false, .stack, .official⟩
  | 0x9 => ⟨"AND", .immediate, some 2, false, .read, .official⟩
  | 0xA => ⟨"ROL", .accumulator, some 2, false, .none, .official⟩
  | 0xB => ⟨"*ANC", .immediate, some 2, false, .read, .stable⟩
  | 0xC => ⟨"BIT", .absolute, some 4, false, .read, .official⟩
  | 0xD => ⟨"AND", .absolute, some 4, false, .read, .official⟩
  | 0xE => ⟨"ROL", .absolute, some 6, false, .rmw, .official⟩
  | _ => ⟨"*RLA", .absolute, some 6, false, .rmw, .stable⟩

/-- The table's rows 30 to 3F. -/
def opcodeRows3 : Nat → Row
  | 0x0 => ⟨"BMI", .relative, some 2, false, .branch, .official⟩
  | 0x1 => ⟨"AND", .indirectIndexed, some 5, true, .read, .official⟩
  | 0x2 => ⟨"*JAM", .implied, none, false, .none, .jam⟩
  | 0x3 => ⟨"*RLA", .indirectIndexed, some 8, false, .rmw, .stable⟩
  | 0x4 => ⟨"*NOP", .zeroPageX, some 4, false, .read, .stable⟩
  | 0x5 => ⟨"AND", .zeroPageX, some 4, false, .read, .official⟩
  | 0x6 => ⟨"ROL", .zeroPageX, some 6, false, .rmw, .official⟩
  | 0x7 => ⟨"*RLA", .zeroPageX, some 6, false, .rmw, .stable⟩
  | 0x8 => ⟨"SEC", .implied, some 2, false, .none, .official⟩
  | 0x9 => ⟨"AND", .absoluteY, some 4, true, .read, .official⟩
  | 0xA => ⟨"*NOP", .implied, some 2, false, .none, .stable⟩
  | 0xB => ⟨"*RLA", .absoluteY, some 7, false, .rmw, .stable⟩
  | 0xC => ⟨"*NOP", .absoluteX, some 4, true, .read, .stable⟩
  | 0xD => ⟨"AND", .absoluteX, some 4, true, .read, .official⟩
  | 0xE => ⟨"ROL", .absoluteX, some 7, false, .rmw, .official⟩
  | _ => ⟨"*RLA", .absoluteX, some 7, false, .rmw, .stable⟩

/-- The table's rows 40 to 4F. -/
def opcodeRows4 : Nat → Row
  | 0x0 => ⟨"RTI", .implied, some 6, false, .stack, .official⟩
  | 0x1 => ⟨"EOR", .indexedIndirect, some 6, false, .read, .official⟩
  | 0x2 => ⟨"*JAM", .implied, none, false, .none, .jam⟩
  | 0x3 => ⟨"*SRE", .indexedIndirect, some 8, false, .rmw, .stable⟩
  | 0x4 => ⟨"*NOP", .zeroPage, some 3, false, .read, .stable⟩
  | 0x5 => ⟨"EOR", .zeroPage, some 3, false, .read, .official⟩
  | 0x6 => ⟨"LSR", .zeroPage, some 5, false, .rmw, .official⟩
  | 0x7 => ⟨"*SRE", .zeroPage, some 5, false, .rmw, .stable⟩
  | 0x8 => ⟨"PHA", .implied, some 3, false, .stack, .official⟩
  | 0x9 => ⟨"EOR", .immediate, some 2, false, .read, .official⟩
  | 0xA => ⟨"LSR", .accumulator, some 2, false, .none, .official⟩
  | 0xB => ⟨"*ALR", .immediate, some 2, false, .read, .stable⟩
  | 0xC => ⟨"JMP", .absolute, some 3, false, .jump, .official⟩
  | 0xD => ⟨"EOR", .absolute, some 4, false, .read, .official⟩
  | 0xE => ⟨"LSR", .absolute, some 6, false, .rmw, .official⟩
  | _ => ⟨"*SRE", .absolute, some 6, false, .rmw, .stable⟩

/-- The table's rows 50 to 5F. -/
def opcodeRows5 : Nat → Row
  | 0x0 => ⟨"BVC", .relative, some 2, false, .branch, .official⟩
  | 0x1 => ⟨"EOR", .indirectIndexed, some 5, true, .read, .official⟩
  | 0x2 => ⟨"*JAM", .implied, none, false, .none, .jam⟩
  | 0x3 => ⟨"*SRE", .indirectIndexed, some 8, false, .rmw, .stable⟩
  | 0x4 => ⟨"*NOP", .zeroPageX, some 4, false, .read, .stable⟩
  | 0x5 => ⟨"EOR", .zeroPageX, some 4, false, .read, .official⟩
  | 0x6 => ⟨"LSR", .zeroPageX, some 6, false, .rmw, .official⟩
  | 0x7 => ⟨"*SRE", .zeroPageX, some 6, false, .rmw, .stable⟩
  | 0x8 => ⟨"CLI", .implied, some 2, false, .none, .official⟩
  | 0x9 => ⟨"EOR", .absoluteY, some 4, true, .read, .official⟩
  | 0xA => ⟨"*NOP", .implied, some 2, false, .none, .stable⟩
  | 0xB => ⟨"*SRE", .absoluteY, some 7, false, .rmw, .stable⟩
  | 0xC => ⟨"*NOP", .absoluteX, some 4, true, .read, .stable⟩
  | 0xD => ⟨"EOR", .absoluteX, some 4, true, .read, .official⟩
  | 0xE => ⟨"LSR", .absoluteX, some 7, false, .rmw, .official⟩
  | _ => ⟨"*SRE", .absoluteX, some 7, false, .rmw, .stable⟩

/-- The table's rows 60 to 6F. -/
def opcodeRows6 : Nat → Row
  | 0x0 => ⟨"RTS", .implied, some 6, false, .stack, .official⟩
  | 0x1 => ⟨"ADC", .indexedIndirect, some 6, false, .read, .official⟩
  | 0x2 => ⟨"*JAM", .implied, none, false, .none, .jam⟩
  | 0x3 => ⟨"*RRA", .indexedIndirect, some 8, false, .rmw, .stable⟩
  | 0x4 => ⟨"*NOP", .zeroPage, some 3, false, .read, .stable⟩
  | 0x5 => ⟨"ADC", .zeroPage, some 3, false, .read, .official⟩
  | 0x6 => ⟨"ROR", .zeroPage, some 5, false, .rmw, .official⟩
  | 0x7 => ⟨"*RRA", .zeroPage, some 5, false, .rmw, .stable⟩
  | 0x8 => ⟨"PLA", .implied, some 4, false, .stack, .official⟩
  | 0x9 => ⟨"ADC", .immediate, some 2, false, .read, .official⟩
  | 0xA => ⟨"ROR", .accumulator, some 2, false, .none, .official⟩
  | 0xB => ⟨"*ARR", .immediate, some 2, false, .read, .stable⟩
  | 0xC => ⟨"JMP", .indirect, some 5, false, .jump, .official⟩
  | 0xD => ⟨"ADC", .absolute, some 4, false, .read, .official⟩
  | 0xE => ⟨"ROR", .absolute, some 6, false, .rmw, .official⟩
  | _ => ⟨"*RRA", .absolute, some 6, false, .rmw, .stable⟩

/-- The table's rows 70 to 7F. -/
def opcodeRows7 : Nat → Row
  | 0x0 => ⟨"BVS", .relative, some 2, false, .branch, .official⟩
  | 0x1 => ⟨"ADC", .indirectIndexed, some 5, true, .read, .official⟩
  | 0x2 => ⟨"*JAM", .implied, none, false, .none, .jam⟩
  | 0x3 => ⟨"*RRA", .indirectIndexed, some 8, false, .rmw, .stable⟩
  | 0x4 => ⟨"*NOP", .zeroPageX, some 4, false, .read, .stable⟩
  | 0x5 => ⟨"ADC", .zeroPageX, some 4, false, .read, .official⟩
  | 0x6 => ⟨"ROR", .zeroPageX, some 6, false, .rmw, .official⟩
  | 0x7 => ⟨"*RRA", .zeroPageX, some 6, false, .rmw, .stable⟩
  | 0x8 => ⟨"SEI", .implied, some 2, false, .none, .official⟩
  | 0x9 => ⟨"ADC", .absoluteY, some 4, true, .read, .official⟩
  | 0xA => ⟨"*NOP", .implied, some 2, false, .none, .stable⟩
  | 0xB => ⟨"*RRA", .absoluteY, some 7, false, .rmw, .stable⟩
  | 0xC => ⟨"*NOP", .absoluteX, some 4, true, .read, .stable⟩
  | 0xD => ⟨"ADC", .absoluteX, some 4, true, .read, .official⟩
  | 0xE => ⟨"ROR", .absoluteX, some 7, false, .rmw, .official⟩
  | _ => ⟨"*RRA", .absoluteX, some 7, false, .rmw, .stable⟩

/-- The table's rows 80 to 8F. -/
def opcodeRows8 : Nat → Row
  | 0x0 => ⟨"*NOP", .immediate, some 2, false, .read, .stable⟩
  | 0x1 => ⟨"STA", .indexedIndirect, some 6, false, .write, .official⟩
  | 0x2 => ⟨"*NOP", .immediate, some 2, false, .read, .stable⟩
  | 0x3 => ⟨"*SAX", .indexedIndirect, some 6, false, .write, .stable⟩
  | 0x4 => ⟨"STY", .zeroPage, some 3, false, .write, .official⟩
  | 0x5 => ⟨"STA", .zeroPage, some 3, false, .write, .official⟩
  | 0x6 => ⟨"STX", .zeroPage, some 3, false, .write, .official⟩
  | 0x7 => ⟨"*SAX", .zeroPage, some 3, false, .write, .stable⟩
  | 0x8 => ⟨"DEY", .implied, some 2, false, .none, .official⟩
  | 0x9 => ⟨"*NOP", .immediate, some 2, false, .read, .stable⟩
  | 0xA => ⟨"TXA", .implied, some 2, false, .none, .official⟩
  | 0xB => ⟨"*ANE", .immediate, some 2, false, .read, .unstable⟩
  | 0xC => ⟨"STY", .absolute, some 4, false, .write, .official⟩
  | 0xD => ⟨"STA", .absolute, some 4, false, .write, .official⟩
  | 0xE => ⟨"STX", .absolute, some 4, false, .write, .official⟩
  | _ => ⟨"*SAX", .absolute, some 4, false, .write, .stable⟩

/-- The table's rows 90 to 9F. -/
def opcodeRows9 : Nat → Row
  | 0x0 => ⟨"BCC", .relative, some 2, false, .branch, .official⟩
  | 0x1 => ⟨"STA", .indirectIndexed, some 6, false, .write, .official⟩
  | 0x2 => ⟨"*JAM", .implied, none, false, .none, .jam⟩
  | 0x3 => ⟨"*SHA", .indirectIndexed, some 6, false, .write, .unstable⟩
  | 0x4 => ⟨"STY", .zeroPageX, some 4, false, .write, .official⟩
  | 0x5 => ⟨"STA", .zeroPageX, some 4, false, .write, .official⟩
  | 0x6 => ⟨"STX", .zeroPageY, some 4, false, .write, .official⟩
  | 0x7 => ⟨"*SAX", .zeroPageY, some 4, false, .write, .stable⟩
  | 0x8 => ⟨"TYA", .implied, some 2, false, .none, .official⟩
  | 0x9 => ⟨"STA", .absoluteY, some 5, false, .write, .official⟩
  | 0xA => ⟨"TXS", .implied, some 2, false, .none, .official⟩
  | 0xB => ⟨"*TAS", .absoluteY, some 5, false, .write, .unstable⟩
  | 0xC => ⟨"*SHY", .absoluteX, some 5, false, .write, .unstable⟩
  | 0xD => ⟨"STA", .absoluteX, some 5, false, .write, .official⟩
  | 0xE => ⟨"*SHX", .absoluteY, some 5, false, .write, .unstable⟩
  | _ => ⟨"*SHA", .absoluteY, some 5, false, .write, .unstable⟩

/-- The table's rows A0 to AF. -/
def opcodeRowsA : Nat → Row
  | 0x0 => ⟨"LDY", .immediate, some 2, false, .read, .official⟩
  | 0x1 => ⟨"LDA", .indexedIndirect, some 6, false, .read, .official⟩
  | 0x2 => ⟨"LDX", .immediate, some 2, false, .read, .official⟩
  | 0x3 => ⟨"*LAX", .indexedIndirect, some 6, false, .read, .stable⟩
  | 0x4 => ⟨"LDY", .zeroPage, some 3, false, .read, .official⟩
  | 0x5 => ⟨"LDA", .zeroPage, some 3, false, .read, .official⟩
  | 0x6 => ⟨"LDX", .zeroPage, some 3, false, .read, .official⟩
  | 0x7 => ⟨"*LAX", .zeroPage, some 3, false, .read, .stable⟩
  | 0x8 => ⟨"TAY", .implied, some 2, false, .none, .official⟩
  | 0x9 => ⟨"LDA", .immediate, some 2, false, .read, .official⟩
  | 0xA => ⟨"TAX", .implied, some 2, false, .none, .official⟩
  | 0xB => ⟨"*LXA", .immediate, some 2, false, .read, .unstable⟩
  | 0xC => ⟨"LDY", .absolute, some 4, false, .read, .official⟩
  | 0xD => ⟨"LDA", .absolute, some 4, false, .read, .official⟩
  | 0xE => ⟨"LDX", .absolute, some 4, false, .read, .official⟩
  | _ => ⟨"*LAX", .absolute, some 4, false, .read, .stable⟩

/-- The table's rows B0 to BF. -/
def opcodeRowsB : Nat → Row
  | 0x0 => ⟨"BCS", .relative, some 2, false, .branch, .official⟩
  | 0x1 => ⟨"LDA", .indirectIndexed, some 5, true, .read, .official⟩
  | 0x2 => ⟨"*JAM", .implied, none, false, .none, .jam⟩
  | 0x3 => ⟨"*LAX", .indirectIndexed, some 5, true, .read, .stable⟩
  | 0x4 => ⟨"LDY", .zeroPageX, some 4, false, .read, .official⟩
  | 0x5 => ⟨"LDA", .zeroPageX, some 4, false, .read, .official⟩
  | 0x6 => ⟨"LDX", .zeroPageY, some 4, false, .read, .official⟩
  | 0x7 => ⟨"*LAX", .zeroPageY, some 4, false, .read, .stable⟩
  | 0x8 => ⟨"CLV", .implied, some 2, false, .none, .official⟩
  | 0x9 => ⟨"LDA", .absoluteY, some 4, true, .read, .official⟩
  | 0xA => ⟨"TSX", .implied, some 2, false, .none, .official⟩
  | 0xB => ⟨"*LAS", .absoluteY, some 4, true, .read, .stable⟩
  | 0xC => ⟨"LDY", .absoluteX, some 4, true, .read, .official⟩
  | 0xD => ⟨"LDA", .absoluteX, some 4, true, .read, .official⟩
  | 0xE => ⟨"LDX", .absoluteY, some 4, true, .read, .official⟩
  | _ => ⟨"*LAX", .absoluteY, some 4, true, .read, .stable⟩

/-- The table's rows C0 to CF. -/
def opcodeRowsC : Nat → Row
  | 0x0 => ⟨"CPY", .immediate, some 2, false, .read, .official⟩
  | 0x1 => ⟨"CMP", .indexedIndirect, some 6, false, .read, .official⟩
  | 0x2 => ⟨"*NOP", .immediate, some 2, false, .read, .stable⟩
  | 0x3 => ⟨"*DCP", .indexedIndirect, some 8, false, .rmw, .stable⟩
  | 0x4 => ⟨"CPY", .zeroPage, some 3, false, .read, .official⟩
  | 0x5 => ⟨"CMP", .zeroPage, some 3, false, .read, .official⟩
  | 0x6 => ⟨"DEC", .zeroPage, some 5, false, .rmw, .official⟩
  | 0x7 => ⟨"*DCP", .zeroPage, some 5, false, .rmw, .stable⟩
  | 0x8 => ⟨"INY", .implied, some 2, false, .none, .official⟩
  | 0x9 => ⟨"CMP", .immediate, some 2, false, .read, .official⟩
  | 0xA => ⟨"DEX", .implied, some 2, false, .none, .official⟩
  | 0xB => ⟨"*AXS", .immediate, some 2, false, .read, .stable⟩
  | 0xC => ⟨"CPY", .absolute, some 4, false, .read, .official⟩
  | 0xD => ⟨"CMP", .absolute, some 4, false, .read, .official⟩
  | 0xE => ⟨"DEC", .absolute, some 6, false, .rmw, .official⟩
  | _ => ⟨"*DCP", .absolute, some 6, false, .rmw, .stable⟩

/-- The table's rows D0 to DF. -/
def opcodeRowsD : Nat → Row
  | 0x0 => ⟨"BNE", .relative, some 2, false, .branch, .official⟩
  | 0x1 => ⟨"CMP", .indirectIndexed, some 5, true, .read, .official⟩
  | 0x2 => ⟨"*JAM", .implied, none, false, .none, .jam⟩
  | 0x3 => ⟨"*DCP", .indirectIndexed, some 8, false, .rmw, .stable⟩
  | 0x4 => ⟨"*NOP", .zeroPageX, some 4, false, .read, .stable⟩
  | 0x5 => ⟨"CMP", .zeroPageX, some 4, false, .read, .official⟩
  | 0x6 => ⟨"DEC", .zeroPageX, some 6, false, .rmw, .official⟩
  | 0x7 => ⟨"*DCP", .zeroPageX, some 6, false, .rmw, .stable⟩
  | 0x8 => ⟨"CLD", .implied, some 2, false, .none, .official⟩
  | 0x9 => ⟨"CMP", .absoluteY, some 4, true, .read, .official⟩
  | 0xA => ⟨"*NOP", .implied, some 2, false, .none, .stable⟩
  | 0xB => ⟨"*DCP", .absoluteY, some 7, false, .rmw, .stable⟩
  | 0xC => ⟨"*NOP", .absoluteX, some 4, true, .read, .stable⟩
  | 0xD => ⟨"CMP", .absoluteX, some 4, true, .read, .official⟩
  | 0xE => ⟨"DEC", .absoluteX, some 7, false, .rmw, .official⟩
  | _ => ⟨"*DCP", .absoluteX, some 7, false, .rmw, .stable⟩

/-- The table's rows E0 to EF. -/
def opcodeRowsE : Nat → Row
  | 0x0 => ⟨"CPX", .immediate, some 2, false, .read, .official⟩
  | 0x1 => ⟨"SBC", .indexedIndirect, some 6, false, .read, .official⟩
  | 0x2 => ⟨"*NOP", .immediate, some 2, false, .read, .stable⟩
  | 0x3 => ⟨"*ISC", .indexedIndirect, some 8, false, .rmw, .stable⟩
  | 0x4 => ⟨"CPX", .zeroPage, some 3, false, .read, .official⟩
  | 0x5 => ⟨"SBC", .zeroPage, some 3, false, .read, .official⟩
  | 0x6 => ⟨"INC", .zeroPage, some 5, false, .rmw, .official⟩
  | 0x7 => ⟨"*ISC", .zeroPage, some 5, false, .rmw, .stable⟩
  | 0x8 => ⟨"INX", .implied, some 2, false, .none, .official⟩
  | 0x9 => ⟨"SBC", .immediate, some 2, false, .read, .official⟩
  | 0xA => ⟨"NOP", .implied, some 2, false, .none, .official⟩
  | 0xB => ⟨"*SBC", .immediate, some 2, false, .read, .stable⟩
  | 0xC => ⟨"CPX", .absolute, some 4, false, .read, .official⟩
  | 0xD => ⟨"SBC", .absolute, some 4, false, .read, .official⟩
  | 0xE => ⟨"INC", .absolute, some 6, false, .rmw, .official⟩
  | _ => ⟨"*ISC", .absolute, some 6, false, .rmw, .stable⟩

/-- The table's rows F0 to FF. -/
def opcodeRowsF : Nat → Row
  | 0x0 => ⟨"BEQ", .relative, some 2, false, .branch, .official⟩
  | 0x1 => ⟨"SBC", .indirectIndexed, some 5, true, .read, .official⟩
  | 0x2 => ⟨"*JAM", .implied, none, false, .none, .jam⟩
  | 0x3 => ⟨"*ISC", .indirectIndexed, some 8, false, .rmw, .stable⟩
  | 0x4 => ⟨"*NOP", .zeroPageX, some 4, false, .read, .stable⟩
  | 0x5 => ⟨"SBC", .zeroPageX, some 4, false, .read, .official⟩
  | 0x6 => ⟨"INC", .zeroPageX, some 6, false, .rmw, .official⟩
  | 0x7 => ⟨"*ISC", .zeroPageX, some 6, false, .rmw, .stable⟩
  | 0x8 => ⟨"SED", .implied, some 2, false, .none, .official⟩
  | 0x9 => ⟨"SBC", .absoluteY, some 4, true, .read, .official⟩
  | 0xA => ⟨"*NOP", .implied, some 2, false, .none, .stable⟩
  | 0xB => ⟨"*ISC", .absoluteY, some 7, false, .rmw, .stable⟩
  | 0xC => ⟨"*NOP", .absoluteX, some 4, true, .read, .stable⟩
  | 0xD => ⟨"SBC", .absoluteX, some 4, true, .read, .official⟩
  | 0xE => ⟨"INC", .absoluteX, some 7, false, .rmw, .official⟩
  | _ => ⟨"*ISC", .absoluteX, some 7, false, .rmw, .stable⟩

/-- The row of an opcode byte. -/
def opcodeRow (op : Byte) : Row :=
  match op.toNat / 16 with
  | 0x0 => opcodeRows0 (op.toNat % 16)
  | 0x1 => opcodeRows1 (op.toNat % 16)
  | 0x2 => opcodeRows2 (op.toNat % 16)
  | 0x3 => opcodeRows3 (op.toNat % 16)
  | 0x4 => opcodeRows4 (op.toNat % 16)
  | 0x5 => opcodeRows5 (op.toNat % 16)
  | 0x6 => opcodeRows6 (op.toNat % 16)
  | 0x7 => opcodeRows7 (op.toNat % 16)
  | 0x8 => opcodeRows8 (op.toNat % 16)
  | 0x9 => opcodeRows9 (op.toNat % 16)
  | 0xA => opcodeRowsA (op.toNat % 16)
  | 0xB => opcodeRowsB (op.toNat % 16)
  | 0xC => opcodeRowsC (op.toNat % 16)
  | 0xD => opcodeRowsD (op.toNat % 16)
  | 0xE => opcodeRowsE (op.toNat % 16)
  | _ => opcodeRowsF (op.toNat % 16)

/-- The instruction's row of the table. -/
def Instr.row (i : Instr) : Row := opcodeRow i.opcode

/-- An instruction is well formed when its row keeps the table's laws and its bytes are as many as the row says. -/
def Instr.wellFormed (i : Instr) : Bool := i.row.wellFormed && i.row.fits (encode i)

end Sys2Proof
end

