-- ==== Sys2Proof/Machine/Fetch.lean ====
section
/-! DEFINITION. Fetching an instruction's bytes (30_encoding.md R80, R82; 10_state.md R27) and placing them. -/

namespace Sys2Proof.Machine

/-- The length of the instruction an opcode byte begins (R82). -/
def instrLength (op : Byte) : Nat := (opcodeForm op).length

/-- How many of an instruction's bytes are fetched before its own bus accesses: all of them, but for JSR, which fetches
its high address byte after its pushes (45_control.md R201). -/
def fetchedFirst (op : Byte) : Nat := if op = 0x20 then 2 else instrLength op

/-- The instruction at PC: the decoder's answer on the bytes that successive fetches return. For JSR the third byte is
the one that stands there before the pushes; its meaning fetches that byte itself (entry 15). -/
def State.instruction (s : State) : Except DecodeError (Instr × List Byte) :=
  decode (State.fetchedBytes (instrLength s.fetched) s)

/-- The state an instruction's meaning starts from: its bytes fetched, PC past them. -/
def State.afterFetch (s : State) : State := State.fetchN (fetchedFirst s.fetched) s

/-- Stores bytes in RAM from a cell on. -/
def Memory.writeBytes : Memory → Nat → List Byte → Memory
  | m, _, [] => m
  | m, a, b :: bs => Memory.writeBytes (m.write a b) (a + 1) bs

/-- Where `withFetchWord` places an instruction: RAM 0x0200, where the spec's test vectors place their code
(95_test_vectors.md, conventions). -/
def loadAddress : Nat := 0x200

end Sys2Proof.Machine
end

