-- ==== Sys2Proof/Machine/HostCalls.lean ====
section
/-! DEFINITION. What the host does to the CPU at a step boundary (60_exceptions.md R283, R284): interrupt requests, the
reset button, power-on, the save and the load of a snapshot; and the launch of a console with a cartridge (20_memory.md R56, 70_reset_and_hazards.md R303). -/

namespace Sys2Proof.Machine

/-- `request_nmi()` (R276): requests made while one is pending collapse into it (10_state.md R36). -/
def State.requestNmi (s : State) : State := { s with nmiPending := true }

/-- The IRQ level from this boundary on (R276, 10_state.md R37); `request_irq()` is the level 1. -/
def State.setIrqLine (s : State) (level : Bool) : State := { s with irqLine := level }

/-- The interrupt requests of one boundary. -/
def State.arrive (s : State) (b : Boundary) : State :=
  (if b.nmi then s.requestNmi else s).setIrqLine b.irq

/-- A push of the reset sequence, turned into a read: no byte is written, S is decremented, and the read happens with
`DummyAccesses = true` only (70_reset_and_hazards.md R302). -/
def State.suppressedPush (s : State) : State := { s.dummyRead (stackSlot s.sp) with sp := s.sp - 1 }

/-- I set, the latches clear, PC from the reset vector (R300, R302). -/
def State.startFromVector (s : State) : State :=
  ({ s.setI true with nmiPending := false, halted := false } : State).jumpThrough resetVector

/-- `Reset()`, the soft reset (R302). A, X, Y, the flags but I, the RAM and `irqLine` keep their values. The devices'
own reset is theirs (entry 20). -/
def State.softReset (s : State) : State :=
  let s1 : State := { s with devices := Config.busAfterReset s.devices }
  let s2 := (s1.dummyRead s1.pc).dummyRead s1.pc
  let s3 := s2.suppressedPush.suppressedPush.suppressedPush.startFromVector
  { s3 with cycles := (s3.cycles + 7) % 2 ^ s3.cfg.cycleWidth, lastCost := some 7 }

/-- The state a console switched on holds before the reset sequence reads its vector, with internal RAM as drawn
(20_memory.md R54); the data bus latch starts at 0x00 (DESIGN CHOICE, entry 6). -/
def State.poweredUp (s : State) (d : Draw) : State :=
  { s with
    a := d.a, x := d.x, y := d.y, sp := 0xFD
    p := { c := d.c, z := d.z, i := true, d := d.d, v := d.v, n := d.n }
    dataBus := 0
    mem := s.mem.withRam d.ram
    devices := Config.busAfterPowerOn s.devices
    dmaWritten := false }

/-- `PowerOn()` (R300): registers and RAM from the draws, no dummy access, 7 cycles on the counter (entries 21 and 28).
The cartridge, the parameters, the record of accesses and the coming inputs are the machine's own and stay. -/
def State.powerOn (s : State) (d : Draw) : State :=
  let s1 := (s.poweredUp d).startFromVector
  { s1 with cycles := 7 % 2 ^ s1.cfg.cycleWidth, lastCost := some 7 }

/-- The save of a snapshot (60_exceptions.md R290): every field of 10_state.md R21, with the RAM and the device states. -/
def State.save (s : State) : Snapshot :=
  { a := s.a, x := s.x, y := s.y, sp := s.sp, pc := s.pc, p := s.p
    cycles := s.cycles, nmiPending := s.nmiPending, halted := s.halted, dataBus := s.dataBus
    ram := s.mem.ramBytes ramSize, devices := s.devices, romSwitched := s.romSwitched }

/-- The load of a snapshot (R290) puts back every one of those fields. The program ROM, the parameters, the record of
accesses, the IRQ level and the coming inputs are the machine's own and stay; no access is made, no cycle counted and no
cost returned (entry 31). The counter is taken modulo 2^CycleWidth (entry 32). -/
def State.load (s : State) (k : Snapshot) : State :=
  { s with
    a := k.a, x := k.x, y := k.y, sp := k.sp, pc := k.pc, p := k.p
    cycles := k.cycles % 2 ^ s.cfg.cycleWidth, nmiPending := k.nmiPending, halted := k.halted, dataBus := k.dataBus
    mem := s.mem.withRam k.ram, devices := k.devices, romSwitched := k.romSwitched
    dmaWritten := false, lastCost := none }

/-- A console that has never run, with a cartridge whose program ROM holds `rom` from 0x8000 on (R56). -/
def State.unpowered (cfg : Config) (rom : List Byte) : State :=
  { a := 0, x := 0, y := 0, sp := 0, pc := 0
    p := { c := false, z := false, i := false, d := false, v := false, n := false }
    cycles := 0, nmiPending := false, irqLine := false, halted := false, dataBus := 0
    mem := Memory.ofBytes addressSpace romBase rom
    romSwitched := false, devices := 0, dmaWritten := false, trace := [], lastCost := none, inputs := [], cfg := cfg }

/-- A launch: a cartridge, the parameters and the power-on draws (00_scope.md R10). -/
def State.launch (cfg : Config) (rom : List Byte) (d : Draw) : State := (State.unpowered cfg rom).powerOn d

end Sys2Proof.Machine
end

