-- ==== Sys2Proof/Machine/CpuStep.lean ====
section
/-! DEFINITION. The parts of a step: running the instruction at PC, the CPU's own step with its interrupts, and the step
of a boundary at which the host acts (30_encoding.md R80, 60_exceptions.md R272, R273, R283, R284). -/

namespace Sys2Proof.Machine

/-- Fetches the instruction at PC, decodes it and runs its meaning (R80). The fault is never reached (R81, R282). -/
def State.runInstruction (s : State) : Host.Outcome State Fault Refusal :=
  match s.instruction with
  | .ok (i, _) => exec i s.afterFetch
  | .error _ => .fault (.unimplementedOpcode s.fetched)

/-- `Step(irqLine)` (R80, 60_exceptions.md R272, R273): a pending NMI, then an IRQ that I allows, then the next
instruction, one of them per step. A halted CPU has no step: its state stays as it is (R289, entry 8). -/
def State.cpuStep (s : State) : Host.Outcome State Fault Refusal :=
  if s.halted then .next s
  else if s.nmiPending then .next (s.dispatch .nmi)
  else if s.irqLine && !s.p.i then .next (s.dispatch .irq)
  else s.runInstruction

/-- What the host does at this boundary, then the CPU's step or the reset or snapshot load in its place (R283, R284,
R290, entry 9). -/
def State.boundaryStep (s : State) (b : Boundary) : Host.Outcome State Fault Refusal :=
  match b.call with
  | none => (s.arrive b).cpuStep
  | some .soft => .next (s.arrive b).softReset
  | some (.powerOn d) => .next ((s.arrive b).powerOn d)
  | some (.load k) => .next ((s.arrive b).load k)

end Sys2Proof.Machine
end

