-- ==== Sys2Proof/Machine/Step.lean ====
section
/-! DEFINITION. One step of the machine (30_encoding.md R80) and how the host places an instruction to run. -/

namespace Sys2Proof.Machine

/-- One step of the machine. With no input left the host makes no call and the IRQ level stays as it is. -/
def step (s : State) : Host.Outcome State Fault Refusal :=
  match s.inputs with
  | [] => s.cpuStep
  | b :: rest => State.boundaryStep { s with inputs := rest } b

/-- `s` about to run the instruction with these bits (numbered as spec/opcode_table.json numbers them): its bytes stand
in RAM at `loadAddress`, PC is there, and nothing comes before it (not halted, no interrupt, no host call). It stands
for the load of a program from outside (entry 7). -/
def State.withFetchWord (s : State) (nbits w : Nat) : State :=
  { s with
    mem := Memory.writeBytes s.mem loadAddress (bytesOfNat 3 (w % 2 ^ nbits))
    pc := BitVec.ofNat 16 loadAddress
    halted := false
    nmiPending := false
    irqLine := false
    inputs := [] }

end Sys2Proof.Machine
end

