-- ==== Sys2Proof/Safety.lean ====
section
/-! DEFINITION. The terms in which claims speak of the machine: the legal states, what is held where, where an operand
stands, which accesses a step makes, and what a step leaves as it was. Each is written from the rules, apart from the
operations that the meanings call. -/

namespace Sys2Proof.Machine

open Sys2Proof

/-! ## Legal states and safe outcomes -/

/-- The data bus holds the byte of the newest access (10_state.md R39, 20_memory.md R58). A snapshot load alone can end
this, since it brings its own latch and leaves the record of accesses as it is (entry 31). -/
def State.latched (s : State) : Prop := ∀ e, s.trace.head? = some e → s.dataBus = e.byte

/-- The states a run can reach at a step boundary: memory in canonical form, the counter within its width (10_state.md
R35), no DMA write outstanding. -/
def State.Legal (s : State) : Prop :=
  Memory.wf s.mem = true ∧ s.cycles < 2 ^ s.cfg.cycleWidth ∧ s.dmaWritten = false

/-- No fault: the outcome is a next state or one of the spec's refusals (60_exceptions.md R282). -/
def NoFault (r : Result) : Prop := ∀ f, r ≠ .fault f

/-! ## What is held where -/

/-- The byte the model holds for a bus address: a RAM cell through its mirrors (20_memory.md R53), or program ROM while
the profile holds (R56). -/
def State.heldByte (s : State) (a : Addr) : Option Byte :=
  if a.toNat < 0x2000 then some (s.mem.ram (a.toNat % 0x800))
  else if (s.romSwitched = false ∨ s.cfg.mapperFixed = true) ∧ 0x8000 ≤ a.toNat then s.mem.read a.toNat
  else none

/-- The 16-bit pointer in the zero page at `b`, both bytes in the zero page (40_addressing.md R108, R109). -/
def State.zpPointer (s : State) (b : Byte) : Addr := word (s.mem.ram (b + 1).toNat) (s.mem.ram b.toNat)

/-- The base that an indexed mode adds its index to (R109 to R111). -/
def State.base (s : State) : Mode → Addr
  | .absX w => w
  | .absY w => w
  | .indY b => s.zpPointer b
  | .acc | .imm _ | .zp _ | .zpX _ | .zpY _ | .abs _ | .indX _ => 0

/-- The effective address of a mode (R104 to R111), from the registers and the RAM alone; `none` where the mode has no
place in memory. -/
def State.effAddr (s : State) : Mode → Option Addr
  | .acc => none
  | .imm _ => none
  | .zp b => some (zext16 b)
  | .zpX b => some (zext16 (b + s.x))
  | .zpY b => some (zext16 (b + s.y))
  | .abs w => some w
  | .absX w => some (w + zext16 s.x)
  | .absY w => some (w + zext16 s.y)
  | .indX b => some (s.zpPointer (b + s.x))
  | .indY b => some (s.zpPointer b + zext16 s.y)

/-- Whether the mode's indexing crosses a page (R109 to R111, R114). -/
def State.crosses (s : State) : Mode → Bool
  | .absX w => pageCross w (w + zext16 s.x)
  | .absY w => pageCross w (w + zext16 s.y)
  | .indY b => pageCross (s.zpPointer b) (s.zpPointer b + zext16 s.y)
  | .acc | .imm _ | .zp _ | .zpX _ | .zpY _ | .abs _ | .indX _ => false

/-- The RAM cell of a stack slot: page 1, no mirror in the way (10_state.md R25). -/
def stackCell (sp : Byte) : Nat := 0x100 + sp.toNat

/-! ## Bus accesses (40_addressing.md R115, R116) -/

/-- A bus access to come, without its byte. -/
abbrev Access1 := Dir × Addr

/-- The accesses that only `DummyAccesses = true` performs. -/
def State.dummies (s : State) (l : List Access1) : List Access1 := if s.cfg.dummyAccesses then l else []

/-- R116: the read in the base's page that indexing makes, for a read only where the page is crossed. -/
def State.indexDummy (s : State) (cls : Access) (m : Mode) : List Access1 :=
  if cls = .read ∧ s.crosses m = false then []
  else s.dummies [(.read, inPageOf (s.base m) (s.base m + zext16 (match m with | .absX _ => s.x | _ => s.y)))]

/-- The accesses that locating an operand makes, oldest first. -/
def State.locating (s : State) (cls : Access) (m : Mode) : List Access1 :=
  match m with
  | .acc => s.dummies [(.read, s.pc)]
  | .imm _ | .zp _ | .abs _ => []
  | .zpX b | .zpY b => s.dummies [(.read, zext16 b)]
  | .absX _ | .absY _ => s.indexDummy cls m
  | .indX b =>
    s.dummies [(.read, zext16 b)] ++ [(.read, zext16 (b + s.x)), (.read, zext16 (b + s.x + 1))]
  | .indY b => [(.read, zext16 b), (.read, zext16 (b + 1))] ++ s.indexDummy cls m

/-- The accesses of a class at an effective address, oldest first. -/
def State.operating (s : State) (cls : Access) (ea : Addr) : List Access1 :=
  match cls with
  | .read => [(.read, ea)]
  | .write => [(.write, ea)]
  | .rmw => [(.read, ea)] ++ s.dummies [(.write, ea)] ++ [(.write, ea)]
  | .none | .stack | .jump | .branch => []

/-- All accesses of an instruction after its bytes are fetched, oldest first. -/
def State.plan (s : State) (cls : Access) (m : Mode) : List Access1 :=
  s.locating cls m ++ (match s.effAddr m with | none => [] | some ea => s.operating cls ea)

/-- An access without its byte. -/
def BusEvent.key (e : BusEvent) : Access1 := (e.dir, e.addr)

/-- Between `s` and `t` exactly these accesses were made, in this order (oldest first). -/
def Accessed (s t : State) (l : List Access1) : Prop :=
  t.trace.map BusEvent.key = l.reverse ++ s.trace.map BusEvent.key

/-- The accesses made between `s` and `t`, newest first. -/
def newAccesses (s t : State) : List BusEvent := t.trace.take (t.trace.length - s.trace.length)

/-- The address a device sees: a PPU register at 0x2000 plus the low three bits, anything else at its own (20_memory.md
R51, R52, entry 23). -/
def mirrored (a : Addr) : Addr := if 0x2000 ≤ a.toNat ∧ a.toNat < 0x4000 then 0x2000 + (a &&& 7) else a

/-- The devices' token after these accesses (newest first): each one outside internal RAM is handed to the `Bus` oracle
once, in order, at the address the device sees; an access to RAM is not (R55). -/
def tokenAfter (token : Nat) : List BusEvent → Nat
  | [] => token
  | e :: earlier =>
    if e.addr.toNat < 0x2000 then tokenAfter token earlier
    else match e.dir with
      | .read => Config.busAfterRead (tokenAfter token earlier) (mirrored e.addr)
      | .write => Config.busAfterWrite (tokenAfter token earlier) (mirrored e.addr) e.byte

/-- Whether one of these accesses is a write to 0x4014 (R62). -/
def startsDma (l : List BusEvent) : Bool := l.any (fun e => e.dir == .write && e.addr == 0x4014)

/-! ## What a step changes and what it leaves -/

/-- A state without its memory, its bus side (data bus, devices, record) and its cycle account: the registers, the
flags, the interrupt inputs, `halted`, the ROM switch, the host's inputs and the parameters are left. Two states with
the same `cpu` agree on every one of those. -/
def State.cpu (s : State) : State :=
  { s with mem := [], dataBus := 0, devices := 0, dmaWritten := false, trace := [], cycles := 0, lastCost := none }

/-- Every byte reads as before, except that these cells were written (newest first). -/
def Written (s t : State) (ws : List Host.Cell) : Prop := ∀ k, t.mem.read k = (ws.lookup k).or (s.mem.read k)

/-- The cells a write of `v` to a bus address changes: a RAM cell, or none (20_memory.md R53, R55, R59). -/
def storeCells (ea : Addr) (v : Byte) : List Host.Cell := if ea.toNat < 0x2000 then [(ea.toNat % 0x800, v)] else []

/-- `s` after a write to `ea` as far as `cpu` sees it: the ROM profile may be lost (R56). -/
def State.noteWrite (s : State) (ea : Addr) : State :=
  { s with romSwitched := s.romSwitched || decide (0x4020 ≤ ea.toNat) }

/-- The step cost `c` cycles, plus the DMA stall where it wrote 0x4014 (20_memory.md R62), added to the counter modulo
2^CycleWidth (30_encoding.md R80). -/
def Charged (s t : State) (c : Nat) (dma : Bool) : Prop :=
  ∃ stall, (s.dmaWritten = false → dma = false → stall = 0) ∧ t.lastCost = some (c + stall) ∧
    t.cycles = (s.cycles + (c + stall)) % 2 ^ s.cfg.cycleWidth ∧ t.dmaWritten = false

/-- The byte of the newest of these accesses, or the data bus's where there is none (10_state.md R39). -/
def newestByte (l : List BusEvent) (latch : Byte) : Byte := (l.head?.map BusEvent.byte).getD latch

/-- `v` is the byte that `Load(opd)` returned (40_addressing.md R100): the immediate, A, or the answer of the step's one
read at the effective address, after the `earlier` accesses and before the `later` ones. RAM and program ROM answer the
byte held there; open bus answers the latch (20_memory.md R58); from a device, `v` is whatever it drives (R55). -/
def Loaded (s t : State) (m : Mode) (v : Byte) : Prop :=
  match s.effAddr m with
  | none => v = (match m with | .imm b => b | _ => s.a)
  | some ea =>
    ∃ later earlier, t.trace = later ++ ⟨.read, ea, v⟩ :: (earlier ++ s.trace) ∧ (∀ e ∈ later, e.dir = .write) ∧
      (∀ b, s.heldByte ea = some b → v = b) ∧
      (0x4018 ≤ ea.toNat → ea.toNat < 0x4020 → v = newestByte earlier s.dataBus)

/-- Control went to the address that the vector holds: its two bytes were the step's last reads, low byte first
(00_scope.md R14, 20_memory.md R64), and where the model holds the vector's bytes they are those. -/
def JumpedThrough (s t : State) (vec : Addr) : Prop :=
  ∃ lo hi, t.pc = word hi lo ∧ t.trace.take 2 = [⟨.read, vec + 1, hi⟩, ⟨.read, vec, lo⟩] ∧
    (∀ b, s.heldByte vec = some b → lo = b) ∧ (∀ b, s.heldByte (vec + 1) = some b → hi = b)

/-! ## The shapes of an instruction's step -/

/-- Class `read` (R115): the operand is loaded once, the registers and flags become `upd` of the byte, nothing is stored,
and a crossed page costs one cycle more (R114). -/
def ReadStep (s t : State) (m : Mode) (cost : Nat) (upd : Byte → State) : Prop :=
  ∃ v, Loaded s t m v ∧ t.cpu = (upd v).cpu ∧ Written s t [] ∧
    Charged s t (cost + (s.crosses m).toNat) false ∧ Accessed s t (s.plan .read m)

/-- Class `write` (R115): `v` is stored at the effective address, and nothing else changes. -/
def WriteStep (s t : State) (m : Mode) (cost : Nat) (v : Byte) : Prop :=
  ∃ ea, s.effAddr m = some ea ∧ t.cpu = (s.noteWrite ea).cpu ∧ Written s t (storeCells ea v) ∧
    Charged s t cost (decide (ea = 0x4014)) ∧ Accessed s t (s.plan .write m) ∧ t.trace.head? = some ⟨.write, ea, v⟩

/-- Class `rmw` (R115): the byte at the effective address is loaded, `new` of it is stored there, and the registers and
flags become `upd` of the byte. With `DummyAccesses = true` the access before the store writes the byte as it was (R116).
-/
def ModifyStep (s t : State) (m : Mode) (cost : Nat) (new : Byte → Byte) (upd : State → Byte → State) : Prop :=
  ∃ ea v, s.effAddr m = some ea ∧ Loaded s t m v ∧ t.cpu = (upd (s.noteWrite ea) v).cpu ∧
    Written s t (storeCells ea (new v)) ∧ Charged s t cost (decide (ea = 0x4014)) ∧
    Accessed s t (s.plan .rmw m) ∧ t.trace.head? = some ⟨.write, ea, new v⟩ ∧
    (s.cfg.dummyAccesses = true → t.trace[1]? = some ⟨.write, ea, v⟩)

/-- A step told whole: the registers and flags become `u`'s, the cells `ws` are written (newest first), the accesses are
`l`, the cost is `cost`. -/
def WholeStep (s t : State) (cost : Nat) (u : State) (ws : List Host.Cell) (l : List Access1) : Prop :=
  t.cpu = u.cpu ∧ Written s t ws ∧ Charged s t cost false ∧ Accessed s t l

/-- An instruction that works on registers and flags alone: they become `u`'s; no byte is written. -/
def RegisterStep (s t : State) (cost : Nat) (u : State) (l : List Access1) : Prop := WholeStep s t cost u [] l

/-- Exception entry (45_control.md R204, 60_exceptions.md R274): the return address, high byte first, and the status
byte with break bit `brk` go to the three next stack slots; the flags become `p'`, the NMI latch `nmi'`; PC comes from the
vector; 7 cycles. The `before` accesses come ahead of the pushes. -/
def EntryStep (s t : State) (ret : Addr) (brk : Bool) (p' : Flags) (nmi' : Bool) (vec : Addr)
    (before : List Access1) : Prop :=
  JumpedThrough s t vec ∧
    WholeStep s t 7 { s with sp := s.sp - 3, pc := t.pc, p := p', nmiPending := nmi' }
      [(stackCell (s.sp - 2), packP brk s.p), (stackCell (s.sp - 1), loByte ret), (stackCell s.sp, hiByte ret)]
      (before ++ [(.write, stackSlot s.sp), (.write, stackSlot (s.sp - 1)), (.write, stackSlot (s.sp - 2)),
        (.read, vec), (.read, vec + 1)])

/-! ## Forms of an instruction -/

/-- One form of an instruction: its opcode byte, the instruction with its operand, its addressing mode and its base cost
(70_reset_and_hazards.md R308). -/
structure InstrForm where
  op : Byte
  instr : Instr
  mode : Mode
  cost : Nat

/-- In state `s` (after the instruction's bytes are fetched) every form runs to a next state as a `ReadStep`. -/
def Reads (s : State) (upd : Byte → State) (fs : List InstrForm) : Prop :=
  ∀ f ∈ fs, f.instr.opcode = f.op ∧ ∃ t, exec f.instr s = .next t ∧ ReadStep s t f.mode f.cost upd

/-- Every form runs to a next state as a `WriteStep`. -/
def Stores (s : State) (v : Byte) (fs : List InstrForm) : Prop :=
  ∀ f ∈ fs, f.instr.opcode = f.op ∧ ∃ t, exec f.instr s = .next t ∧ WriteStep s t f.mode f.cost v

/-- Every form runs to a next state as a `ModifyStep`. -/
def Modifies (s : State) (new : Byte → Byte) (upd : State → Byte → State) (fs : List InstrForm) : Prop :=
  ∀ f ∈ fs, f.instr.opcode = f.op ∧ ∃ t, exec f.instr s = .next t ∧ ModifyStep s t f.mode f.cost new upd

/-- The instruction has this opcode byte and runs to a next state of which `Q` holds. -/
def Runs (op : Byte) (i : Instr) (s : State) (Q : State → Prop) : Prop := i.opcode = op ∧ ∃ t, exec i s = .next t ∧ Q t

/-- The next step runs an instruction: the host does nothing, the CPU is not halted, no NMI is pending and no IRQ is
allowed (60_exceptions.md R272, R273). -/
def State.Ready (s : State) : Prop :=
  s.inputs = [] ∧ s.halted = false ∧ s.nmiPending = false ∧ (s.irqLine = false ∨ s.p.i = true)

/-- The reads that fetch these bytes one after another from `pc` on, newest first (10_state.md R27). -/
def fetches (pc : Addr) (bytes : List Byte) : List BusEvent :=
  (bytes.zipIdx.map (fun (b, k) => (⟨.read, pc + BitVec.ofNat 16 k, b⟩ : BusEvent))).reverse

/-- The state a step starts its instruction's own work from: the opcode byte and the operand bytes that are fetched
ahead of it were read one after another at PC (R27), the last one stands on the data bus (R39), and every field else is
as it was, but for devices that saw the reads (program ROM, entry 14). -/
def FetchedInto (s u : State) (bytes : List Byte) : Prop :=
  u.cpu = { s with pc := s.pc + BitVec.ofNat 16 bytes.length }.cpu ∧ u.mem = s.mem ∧ u.cycles = s.cycles ∧
    u.dmaWritten = s.dmaWritten ∧ u.lastCost = s.lastCost ∧ u.trace = fetches s.pc bytes ++ s.trace ∧
    u.dataBus = bytes.getLast?.getD s.dataBus ∧ u.devices = tokenAfter s.devices (fetches s.pc bytes)

/-! ## Snapshots (60_exceptions.md R290) -/

/-- The register trace of the next `n` steps: after each one the CPU state of 10_state.md R21, with the RAM and the
device states (R288). It ends early where a step does not go on. -/
def State.registerTrace : Nat → State → List Snapshot
  | 0, _ => []
  | n + 1, s =>
    match step s with
    | .next t => t.save :: State.registerTrace n t
    | .fault _ => []
    | .refused _ => []

/-- The two machines have the same cartridge and launch parameters: what a snapshot does not hold. -/
def SameConsole (s u : State) : Prop := u.cfg = s.cfg ∧ ∀ k, 0x8000 ≤ k → u.mem.read k = s.mem.read k

/-- `SetNZ(v)` (00_scope.md R16). -/
def nz (p : Flags) (v : Byte) : Flags := { p with z := decide (v = 0), n := v.msb }

/-- `A <- AddCore(A, m, C)` in whole numbers (43_arith_logic.md R160, R162): C is the unsigned carry, V says that the
signed sum lies outside -128 to +127. -/
def State.added (s : State) (m : Byte) : State :=
  let sum := s.a.toNat + m.toNat + s.p.c.toNat
  let signed := s.a.toInt + m.toInt + s.p.c.toNat
  let r := BitVec.ofNat 8 sum
  { s with a := r, p := { nz s.p r with c := decide (256 ≤ sum), v := decide (signed < -128 ∨ 127 < signed) } }

/-- SBC in whole numbers (R163): `A - m - (1 - C)`, with C set where the unsigned `A >= m + (1 - C)`. -/
def State.subtracted (s : State) (m : Byte) : State :=
  let borrow := 1 - s.p.c.toNat
  let signed := s.a.toInt - m.toInt - borrow
  let r := s.a - m - BitVec.ofNat 8 borrow
  { s with a := r
           p := { nz s.p r with c := decide (m.toNat + borrow ≤ s.a.toNat), v := decide (signed < -128 ∨ 127 < signed) } }

/-- The flags of `Compare(r, m)` (R161). -/
def compared (p : Flags) (r m : Byte) : Flags :=
  { p with c := decide (m.toNat ≤ r.toNat), z := decide (r = m), n := (r - m).msb }

/-- `v` is the status byte with break bit `b`: N V 1 b D I Z C from bit 7 down (10_state.md R29). -/
def StatusByte (v : Byte) (p : Flags) (b : Bool) : Prop :=
  v.getLsbD 7 = p.n ∧ v.getLsbD 6 = p.v ∧ v.getLsbD 5 = true ∧ v.getLsbD 4 = b ∧ v.getLsbD 3 = p.d ∧
    v.getLsbD 2 = p.i ∧ v.getLsbD 1 = p.z ∧ v.getLsbD 0 = p.c

/-- The flags in a status byte, whatever its bits 4 and 5 (R30). -/
def flagsOf (v : Byte) : Flags :=
  { n := v.getLsbD 7, v := v.getLsbD 6, d := v.getLsbD 3, i := v.getLsbD 2, z := v.getLsbD 1, c := v.getLsbD 0 }

/-- The carry as a byte. -/
def carry (p : Flags) : Byte := if p.c then 1 else 0

end Sys2Proof.Machine
end

