-- ==== Sys2Proof/Certificates/Slice0/Obligations.lean ====
section
/-! DEFINITION. The statements for the provers: what the spec's numbered rules say of decoding, of the step, of every
instruction and of the whole machine. Where a statement speaks of `exec i s`, `s` is the state after the bytes of `i` that
come before its own accesses are fetched (FetchReadsHeldBytes). -/

open Sys2Proof Sys2Proof.Machine

/-- O1. Decoding an encoded instruction gives it back, for all 256 rows and every operand value (30_encoding.md
R82, 30_encoding.md R84, 30_encoding.md R86). -/
def Obligations.DecodeEncodeRoundTrip : Prop :=
  ∀ (i : Instr) (rest : List Byte), i.wellFormed = true → decode (encode i ++ rest) = .ok (i, rest)

/-- O2. Whatever the decoder reads, encoding it gives the bytes it was read from (30_encoding.md R81,
30_encoding.md R82, 30_encoding.md R84). -/
def Obligations.EncodeDecodeRoundTrip : Prop :=
  ∀ (bytes : List Byte) (i : Instr) (rest : List Byte), decode bytes = .ok (i, rest) →
    encode i ++ rest = bytes ∧ (encode i).length = i.row.mode.length

/-- O3. The decoder rejects a string of bytes exactly where bytes of the instruction are missing, and says so by
name (30_encoding.md R81, 30_encoding.md R82, 30_encoding.md R87). -/
def Obligations.DecodeFailsOnlyWhenShort : Prop :=
  ∀ (bytes : List Byte) (e : DecodeError), decode bytes = .error e ↔
    (bytes = [] ∧ e = .empty) ∨
    ∃ op rest, bytes = op :: rest ∧ bytes.length < (opcodeRow op).mode.length ∧ e = .truncated op

/-- O4. Words that the spec writes out, bit by bit, decode to the instructions they stand for (40_addressing.md
R101 to R111, 41_load_store.md R123, 44_incdec_shift.md R181, 45_control.md R200, 45_control.md R206,
47_unofficial.md R247). -/
def Obligations.DecodeSpecWords : Prop :=
  decode [0b10101001, 0b00010000] = .ok (.ldaImm 0x10, []) ∧
    decode [0b10100101, 0b00010000] = .ok (.ldaZp 0x10, []) ∧
    decode [0b10110101, 0b11110000] = .ok (.ldaZpX 0xF0, []) ∧
    decode [0b10110110, 0b11111111] = .ok (.ldxZpY 0xFF, []) ∧
    decode [0b10101101, 0b00110100, 0b00010010] = .ok (.ldaAbs 0x1234, []) ∧
    decode [0b10100001, 0b11111110] = .ok (.ldaIndX 0xFE, []) ∧
    decode [0b10110001, 0b00010000] = .ok (.ldaIndY 0x10, []) ∧
    decode [0b10111101, 0b11110000, 0b00010010] = .ok (.ldaAbsX 0x12F0, []) ∧
    decode [0b10111001, 0b11111111, 0b11111111] = .ok (.ldaAbsY 0xFFFF, []) ∧
    decode [0b00011000] = .ok (.clc, []) ∧
    decode [0b00001010] = .ok (.aslAcc, []) ∧
    decode [0b01001100, 0b00000000, 0b11000000] = .ok (.jmpAbs 0xC000, []) ∧
    decode [0b10010000, 0b00000010] = .ok (.bcc 0x02, []) ∧
    decode [0b10001101, 0b00000000, 0b00000010] = .ok (.staAbs 0x0200, []) ∧
    decode [0b11001110, 0b00000000, 0b00000010] = .ok (.decAbs 0x0200, []) ∧
    decode [0b11101011, 0b00000011] = .ok (.sbcEB 0x03, [])

/-- O5. A step whose bytes at PC decode to an instruction is that instruction run after its bytes are fetched
(30_encoding.md R80, 30_encoding.md R82, 60_exceptions.md R272, 60_exceptions.md R273). -/
def Obligations.StepRunsDecodedInstruction : Prop :=
  ∀ (s : State) (i : Instr) (rest : List Byte), s.Ready →
    decode (State.fetchedBytes (instrLength s.fetched) s) = .ok (i, rest) →
    rest = [] ∧ i.opcode = s.fetched ∧ step s = exec i s.afterFetch

/-- O6. An instruction in RAM or program ROM is fetched byte by byte at PC, across the wrap, and run (10_state.md
R26, 10_state.md R27, 10_state.md R39, 30_encoding.md R80, 30_encoding.md R82, 20_memory.md R58, 20_memory.md R69).
That the devices see a read of program ROM is the model's choice (entries 2 and 14). -/
def Obligations.FetchReadsHeldBytes : Prop :=
  ∀ (s : State) (i : Instr), s.Ready →
    (∀ k b, (encode i)[k]? = some b → s.heldByte (s.pc + BitVec.ofNat 16 k) = some b) →
    ∃ u, step s = exec i u ∧ FetchedInto s u ((encode i).take (if i.opcode = 0x20 then 2 else 3))

/-- O7. A pending NMI, else an IRQ that I allows, is dispatched in place of the next instruction (60_exceptions.md
R274). -/
def Obligations.InterruptDispatch : Prop :=
  ∀ s : State, s.inputs = [] → s.halted = false →
    (s.nmiPending = true → ∃ t, step s = .next t ∧
      EntryStep s t s.pc false { s.p with i := s.cfg.nmiSetsI } false 0xFFFA
        (s.dummies [(.read, s.pc), (.read, s.pc)])) ∧
    (s.nmiPending = false → s.irqLine = true → s.p.i = false → ∃ t, step s = .next t ∧
      EntryStep s t s.pc false { s.p with i := true } false 0xFFFE (s.dummies [(.read, s.pc), (.read, s.pc)]))

/-- O8. What the host does at a boundary reaches the CPU before its next step (60_exceptions.md R276,
60_exceptions.md R283, 60_exceptions.md R284, 10_state.md R36, 10_state.md R37). One list element a step, and an
empty list for no call, are the model's choice (entry 9). -/
def Obligations.HostBoundary : Prop :=
  ∀ (s : State) (b : Boundary) (rest : List Boundary),
    (s.inputs = [] → step s = s.cpuStep) ∧
    (s.inputs = b :: rest → b.call = none → step s =
      State.cpuStep { s with inputs := rest, nmiPending := s.nmiPending || b.nmi, irqLine := b.irq })

/-- O9. A halted CPU has no step: every register, flag, counter, byte and access stays until a reset or a snapshot
load (60_exceptions.md R289, 10_state.md R38). A halted machine whose step answers the same state is the model's
choice (entry 8). -/
def Obligations.HaltedCpuStays : Prop :=
  ∀ s : State, s.halted = true →
    (s.inputs = [] → step s = .next s) ∧
    ∀ b rest, s.inputs = b :: rest → b.call = none →
      step s = .next { s with inputs := rest, nmiPending := s.nmiPending || b.nmi, irqLine := b.irq }

/-- O10. Soft reset: S down by 3 with no byte written, I set, latches clear, PC from 0xFFFC, 7 cycles
(70_reset_and_hazards.md R302, 60_exceptions.md R289, 60_exceptions.md R290, 10_state.md R38). The cleared latch at
a boundary that also requests an NMI (entries 9 and 30) and the returned cost (entry 18) are the model's choice. -/
def Obligations.SoftReset : Prop :=
  (∀ (s : State) (b : Boundary) (rest : List Boundary), s.inputs = b :: rest → b.call = some .soft →
      ∃ t, step s = .next t ∧
      JumpedThrough s t 0xFFFC ∧ Written s t [] ∧
      t.cpu = ({ s with
        sp := s.sp - 3, pc := t.pc, p := { s.p with i := true }, nmiPending := false, halted := false
        irqLine := b.irq, inputs := rest } : State).cpu ∧
      t.cycles = (s.cycles + 7) % 2 ^ s.cfg.cycleWidth ∧ t.lastCost = some 7 ∧
      Accessed s t (s.dummies [(.read, s.pc), (.read, s.pc), (.read, stackSlot s.sp), (.read, stackSlot (s.sp - 1)),
        (.read, stackSlot (s.sp - 2))] ++ [(.read, 0xFFFC), (.read, 0xFFFD)])) ∧
    ∀ s t : State, s.halted = true → step s = .next t → t.halted = false →
      ∃ b rest, s.inputs = b :: rest ∧ (b.call = some .soft ∨ (∃ d, b.call = some (.powerOn d)) ∨
        ∃ k, b.call = some (.load k) ∧ k.halted = false)

/-- O11. Power-on: registers and RAM from the draws, S = 0xFD, I set, PC from 0xFFFC, 7 cycles, no dummy access
(70_reset_and_hazards.md R300, 70_reset_and_hazards.md R301, 20_memory.md R54). What stays (entry 21), the latch
(entry 30), the counter's width (entry 28) and the returned cost (entry 18) are the model's choice. -/
def Obligations.PowerOn : Prop :=
  ∀ (s : State) (b : Boundary) (rest : List Boundary) (d : Draw), s.inputs = b :: rest → b.call = some (.powerOn d) →
    ∃ t, step s = .next t ∧ JumpedThrough s t 0xFFFC ∧
      t.cpu = ({ s with
        a := d.a, x := d.x, y := d.y, sp := 0xFD, pc := t.pc
        p := { c := d.c, z := d.z, i := true, d := d.d, v := d.v, n := d.n }
        nmiPending := false, halted := false, irqLine := b.irq, inputs := rest } : State).cpu ∧
      (∀ c, c < 0x800 → t.mem.ram c = d.ram.getD c 0) ∧ (∀ k, 0x8000 ≤ k → t.mem.read k = s.mem.read k) ∧
      t.cycles = 7 % 2 ^ s.cfg.cycleWidth ∧ t.lastCost = some 7 ∧
      (∃ hi, t.trace.head? = some ⟨.read, 0xFFFD, hi⟩ ∧ t.dataBus = hi) ∧
      Accessed s t [(.read, 0xFFFC), (.read, 0xFFFD)]

/-- O12. What a console just launched holds, for every cartridge, every parameter value and every draw (10_state.md
R41). -/
def Obligations.LaunchState : Prop :=
  ∀ (cfg : Config) (rom : List Byte) (d : Draw), ∃ t, State.launch cfg rom d = t ∧
    t.a = d.a ∧ t.x = d.x ∧ t.y = d.y ∧ t.sp = 0xFD ∧
    t.p = { c := d.c, z := d.z, i := true, d := d.d, v := d.v, n := d.n } ∧
    (3 ≤ cfg.cycleWidth → t.cycles = 7) ∧ t.nmiPending = false ∧ t.halted = false ∧ t.cfg = cfg ∧
    JumpedThrough (State.unpowered cfg rom) t 0xFFFC ∧ (∃ hi, t.trace.head? = some ⟨.read, 0xFFFD, hi⟩ ∧ t.dataBus = hi) ∧
    ∀ k b, k < 0x8000 → rom[k]? = some b → t.heldByte (BitVec.ofNat 16 (0x8000 + k)) = some b

/-- O13. The model's reset state is the launch with the reference parameters and draws and no cartridge placed
(00_scope.md R10, 70_reset_and_hazards.md R300, 70_reset_and_hazards.md R301). -/
def Obligations.ResetIsLaunch : Prop :=
  State.reset = State.launch Config.reference [] Draw.reference

/-- O14. The reset state is legal, and its data bus holds the byte of the newest access (10_state.md R35,
10_state.md R39, 20_memory.md R58, 70_reset_and_hazards.md R300). -/
def Obligations.ResetLegal : Prop :=
  State.reset.Legal ∧ State.reset.latched

/-- O15. Every step of every machine keeps the state legal (10_state.md R35, 10_state.md R39, 20_memory.md R53,
20_memory.md R58, 20_memory.md R62). That a snapshot load leaves the record of accesses as it is is the model's
choice (entry 31). -/
def Obligations.StepKeepsLegal : Prop :=
  ∀ s t : State, s.Legal → step s = .next t →
    t.Legal ∧ (s.latched → (∀ b ∈ s.inputs.head?, ∀ k, b.call ≠ some (.load k)) → t.latched)

/-- O16. No earlier record of an access is lost: a step only adds records in front (entry 19, the model's choice)
(20_memory.md R55, 20_memory.md R66). A record that is never cut is the model's choice (entry 19). -/
def Obligations.TraceOnlyGrows : Prop :=
  ∀ s t : State, step s = .next t → ∃ accesses, t.trace = accesses ++ s.trace

/-- O17. No step changes a byte of program ROM (20_memory.md R56, 20_memory.md R59). That a power-on and a snapshot
load keep the cartridge is the model's choice (entries 21 and 31). -/
def Obligations.RomNeverChanges : Prop :=
  ∀ (s t : State) (k : Nat), step s = .next t → 0x8000 ≤ k → t.mem.read k = s.mem.read k

/-- O18. No step faults: the fatal internal errors are unreachable (60_exceptions.md R282, 60_exceptions.md R270,
30_encoding.md R81, 20_memory.md R52). -/
def Obligations.StepNeverFaults : Prop :=
  ∀ s : State, NoFault (step s)

/-- O19. Which instructions are refused under which policy, and that the refusal names the byte (47_unofficial.md
R231). -/
def Obligations.RefusedExactly : Prop :=
  ∀ (i : Instr) (s : State) (r : Refusal), exec i s = .refused r ↔ r = .unofficial i.opcode ∧
    ((s.cfg.policy = .refuse ∧ i.row.cls ≠ .official) ∨ (s.cfg.policy = .nop ∧ i.row.cls = .jam) ∨
      (s.cfg.policy = .semantic ∧ i.row.cls = .unstable))

/-- O20. A, X, Y and S change only under the instructions the spec lists as their writers (10_state.md R22,
10_state.md R23, 10_state.md R24, 10_state.md R25). -/
def Obligations.RegisterWriters : Prop :=
  ∀ (i : Instr) (s t : State), exec i s = .next t →
    (t.a ≠ s.a → i.row.mode = .accumulator ∨ i.row.mnemonic ∈
      ["LDA", "PLA", "TXA", "TYA", "ADC", "SBC", "AND", "ORA", "EOR", "*LAX", "*SLO", "*RLA", "*SRE", "*RRA", "*ISC",
       "*ANC", "*ALR", "*ARR", "*LAS", "*SBC"]) ∧
    (t.x ≠ s.x → i.row.mnemonic ∈ ["LDX", "TAX", "TSX", "INX", "DEX", "*LAX", "*AXS", "*LAS"]) ∧
    (t.y ≠ s.y → i.row.mnemonic ∈ ["LDY", "TAY", "INY", "DEY"]) ∧
    (t.sp ≠ s.sp → i.row.mnemonic ∈
      ["TXS", "PHA", "PHP", "PLA", "PLP", "JSR", "RTS", "RTI", "BRK", "*LAS"]) ∧
    (i.row.cls ≠ .official → s.cfg.policy ≠ .semantic → t.a = s.a ∧ t.x = s.x ∧ t.y = s.y ∧ t.sp = s.sp)

/-- O21. Each flag changes only under the instructions the spec lists as its writers (10_state.md R33, 10_state.md
R32, 47_unofficial.md R232). -/
def Obligations.FlagWriters : Prop :=
  ∀ (i : Instr) (s t : State), exec i s = .next t →
    (t.p.c ≠ s.p.c → i.row.mnemonic ∈
      ["ADC", "SBC", "CMP", "CPX", "CPY", "ASL", "LSR", "ROL", "ROR", "CLC", "SEC", "PLP", "RTI", "*SLO", "*RLA",
       "*SRE", "*RRA", "*DCP", "*ISC", "*ANC", "*ALR", "*ARR", "*AXS", "*SBC"]) ∧
    (t.p.z ≠ s.p.z ∨ t.p.n ≠ s.p.n → i.row.mnemonic ∈
      ["LDA", "LDX", "LDY", "TAX", "TAY", "TXA", "TYA", "TSX", "PLA", "ADC", "SBC", "AND", "ORA", "EOR", "CMP", "CPX",
       "CPY", "BIT", "INC", "DEC", "INX", "INY", "DEX", "DEY", "ASL", "LSR", "ROL", "ROR", "PLP", "RTI", "*LAX",
       "*SLO", "*RLA", "*SRE", "*RRA", "*DCP", "*ISC", "*ANC", "*ALR", "*ARR", "*AXS", "*LAS", "*SBC"]) ∧
    (t.p.v ≠ s.p.v → i.row.mnemonic ∈ ["ADC", "SBC", "BIT", "CLV", "PLP", "RTI", "*RRA", "*ISC", "*ARR", "*SBC"]) ∧
    (t.p.i ≠ s.p.i → i.row.mnemonic ∈ ["SEI", "CLI", "PLP", "RTI", "BRK"]) ∧
    (t.p.d ≠ s.p.d → i.row.mnemonic ∈ ["SED", "CLD", "PLP", "RTI"]) ∧
    (i.row.cls ≠ .official → s.cfg.policy ≠ .semantic → t.p = s.p)

/-- O22. PC, memory, the latches, halted and the parameters change only where the spec says so (10_state.md R27,
10_state.md R34, 10_state.md R36, 10_state.md R37, 10_state.md R38, 40_addressing.md R115). -/
def Obligations.OtherStateWriters : Prop :=
  ∀ (i : Instr) (s t : State), exec i s = .next t →
    (t.pc ≠ s.pc → i.row.access ∈ [.jump, .branch] ∨ i.row.mnemonic ∈ ["RTS", "RTI", "BRK"]) ∧
    ((∃ k, t.mem.read k ≠ s.mem.read k) →
      i.row.access ∈ [.write, .rmw] ∨ i.row.mnemonic ∈ ["PHA", "PHP", "JSR", "BRK"]) ∧
    t.nmiPending = s.nmiPending ∧ t.irqLine = s.irqLine ∧ t.inputs = s.inputs ∧ t.cfg = s.cfg ∧
    (t.halted = true ↔ s.halted = true ∨ i.row.cls = .jam)

/-- O23. Every instruction costs its table row's cycles, the page-cross or branch extra, and the DMA stall
(70_reset_and_hazards.md R308, 40_addressing.md R114, 45_control.md R205, 30_encoding.md R80, 20_memory.md R62). -/
def Obligations.CostFollowsTable : Prop :=
  ∀ (i : Instr) (s t : State), exec i s = .next t →
    (i.row.cls = .jam ∧ i.row.cycles = none ∧ t.lastCost = none ∧ t.cycles = s.cycles) ∨
    ∃ base extra stall, i.row.cycles = some base ∧ t.lastCost = some (base + extra + stall) ∧
      t.cycles = (s.cycles + (base + extra + stall)) % 2 ^ s.cfg.cycleWidth ∧
      (extra = 0 ∨ (extra = 1 ∧ i.row.pagePenalty = true) ∨ (extra ≤ 2 ∧ i.row.access = .branch)) ∧
      (stall ≠ 0 → s.dmaWritten = true ∨ ∃ e ∈ newAccesses s t, e.dir = .write ∧ e.addr = 0x4014)

/-- O24. Internal RAM is read through its mirrors: the byte last written to the cell, after any write sequence
(20_memory.md R53). -/
def Obligations.RamMirrors : Prop :=
  ∀ (s : State) (writes : List (Addr × Byte)) (a : Addr), a.toNat ≤ 0x1FFF →
    ∃ t, writes.foldl (fun u w => u.busWrite w.1 w.2) s = t ∧
      t.busByte a = t.busByte (BitVec.ofNat 16 (a.toNat % 0x800)) ∧
      t.busByte a = ((writes.reverse.find? (fun w =>
        decide (w.1.toNat ≤ 0x1FFF ∧ w.1.toNat % 0x800 = a.toNat % 0x800))).map Prod.snd).getD
        (s.mem.ram (a.toNat % 0x800)) ∧
      t.busRead a = { t with dataBus := t.busByte a, trace := ⟨.read, a, t.busByte a⟩ :: t.trace }

/-- O25. Every bus access leaves its byte on the data bus, and an open-bus read returns the data bus (20_memory.md
R58, 20_memory.md R55, 10_state.md R39). The cartridge's answer rests on entries 2 and 22, the model's choice. -/
def Obligations.DataBusLatch : Prop :=
  ∀ (s : State) (a : Addr) (v : Byte),
    (s.busRead a).dataBus = s.busByte a ∧ (s.busWrite a v).dataBus = v ∧
    (0x4018 ≤ a.toNat → a.toNat ≤ 0x401F → s.busByte a = s.dataBus) ∧
    (0x4020 ≤ a.toNat → s.heldByte a = none → s.busByte a = (Config.busAnswer s.devices a).getD s.dataBus)

/-- O26. PHP and BRK push the status byte with bit 4 set, IRQ and NMI dispatch with bit 4 clear (10_state.md R29). -/
def Obligations.StatusBytePushed : Prop :=
  (∀ s : State, ∃ t, exec .php s = .next t ∧ StatusByte (t.mem.ram (stackCell s.sp)) s.p true) ∧
    (∀ s : State, ∃ t, exec .brk s = .next t ∧ StatusByte (t.mem.ram (stackCell (s.sp - 2))) s.p true) ∧
    ∀ s : State, s.inputs = [] → s.halted = false → (s.nmiPending = true ∨ (s.irqLine = true ∧ s.p.i = false)) →
      ∃ t, step s = .next t ∧ StatusByte (t.mem.ram (stackCell (s.sp - 2))) s.p false

/-- O27. PLP and RTI load the six flags from the pulled byte and discard its bits 4 and 5 (10_state.md R30). -/
def Obligations.StatusBytePulled : Prop :=
  ∀ s : State, (∃ t, exec .plp s = .next t ∧ t.p = flagsOf (s.mem.ram (stackCell (s.sp + 1)))) ∧
    (∃ t, exec .rti s = .next t ∧ t.p = flagsOf (s.mem.ram (stackCell (s.sp + 1)))) ∧
    ∀ v w : Byte, v ||| 0x30 = w ||| 0x30 → flagsOf v = flagsOf w

/-- O28. PHA then PLA gives A back, PHP then PLP the flags, JSR then RTS the return address (10_state.md R25,
42_transfer_stack.md R136 to R139, 45_control.md R201, 45_control.md R202). -/
def Obligations.PullGivesWhatWasPushed : Prop :=
  ∀ (s t u v : State) (w : Addr), u.sp = t.sp → (∀ k, u.mem.read k = t.mem.read k) →
    (exec .pha s = .next t → exec .pla u = .next v → v.a = s.a ∧ v.p = nz u.p s.a ∧ v.sp = s.sp) ∧
    (exec .php s = .next t → exec .plp u = .next v → v.p = s.p ∧ v.sp = s.sp) ∧
    (exec (.jsr w) s = .next t → exec .rts u = .next v → v.pc = s.pc + 1 ∧ v.sp = s.sp)

/-- O29. RTI after BRK or after a dispatch restores the flags, S and the interrupted PC (60_exceptions.md R279,
60_exceptions.md R280, 45_control.md R203, 45_control.md R204). -/
def Obligations.RtiUndoesEntry : Prop :=
  ∀ s t u v : State, u.sp = t.sp → (∀ k, u.mem.read k = t.mem.read k) → exec .rti u = .next v →
    (exec .brk s = .next t → v.pc = s.pc + 1 ∧ v.p = s.p ∧ v.sp = s.sp) ∧
    (s.inputs = [] → s.halted = false → (s.nmiPending = true ∨ (s.irqLine = true ∧ s.p.i = false)) → step s = .next t →
      v.pc = s.pc ∧ v.p = s.p ∧ v.sp = s.sp)

/-- O30. DummyAccesses changes no register, flag, byte or cost of a step whose accesses all fall in RAM or program
ROM (40_addressing.md R116, 40_addressing.md R117). -/
def Obligations.DummyAccessesIrrelevant : Prop :=
  ∀ s t t' : State, s.inputs = [] → s.dmaWritten = false → s.cfg.dummyAccesses = false → step s = .next t →
    step { s with cfg := { s.cfg with dummyAccesses := true } } = .next t' →
    (∀ e ∈ newAccesses s t', (s.heldByte e.addr).isSome = true) →
    ({ t' with cfg := s.cfg } : State).cpu = t.cpu ∧ (∀ k, t'.mem.read k = t.mem.read k) ∧ t'.cycles = t.cycles ∧
      t'.lastCost = t.lastCost

/-- O31. LDA, LDX, LDY in every addressing mode: the byte loaded, N and Z from it, nothing else (41_load_store.md
R120, 41_load_store.md R121, 41_load_store.md R122). -/
def Obligations.Loads : Prop :=
  ∀ (s : State) (b : Byte) (w : Addr),
    Reads s (fun v => { s with a := v, p := nz s.p v })
      [⟨0xA1, .ldaIndX b, .indX b, 6⟩, ⟨0xA5, .ldaZp b, .zp b, 3⟩, ⟨0xA9, .ldaImm b, .imm b, 2⟩,
       ⟨0xAD, .ldaAbs w, .abs w, 4⟩, ⟨0xB1, .ldaIndY b, .indY b, 5⟩, ⟨0xB5, .ldaZpX b, .zpX b, 4⟩,
       ⟨0xB9, .ldaAbsY w, .absY w, 4⟩, ⟨0xBD, .ldaAbsX w, .absX w, 4⟩] ∧
    Reads s (fun v => { s with x := v, p := nz s.p v })
      [⟨0xA2, .ldxImm b, .imm b, 2⟩, ⟨0xA6, .ldxZp b, .zp b, 3⟩, ⟨0xAE, .ldxAbs w, .abs w, 4⟩,
       ⟨0xB6, .ldxZpY b, .zpY b, 4⟩, ⟨0xBE, .ldxAbsY w, .absY w, 4⟩] ∧
    Reads s (fun v => { s with y := v, p := nz s.p v })
      [⟨0xA0, .ldyImm b, .imm b, 2⟩, ⟨0xA4, .ldyZp b, .zp b, 3⟩, ⟨0xAC, .ldyAbs w, .abs w, 4⟩,
       ⟨0xB4, .ldyZpX b, .zpX b, 4⟩, ⟨0xBC, .ldyAbsX w, .absX w, 4⟩]

/-- O32. STA, STX, STY in every addressing mode: one write at the effective address, nothing read there, no flag
(41_load_store.md R123, 41_load_store.md R124, 41_load_store.md R125). -/
def Obligations.StoresWrite : Prop :=
  ∀ (s : State) (b : Byte) (w : Addr),
    Stores s s.a
      [⟨0x81, .staIndX b, .indX b, 6⟩, ⟨0x85, .staZp b, .zp b, 3⟩, ⟨0x8D, .staAbs w, .abs w, 4⟩,
       ⟨0x91, .staIndY b, .indY b, 6⟩, ⟨0x95, .staZpX b, .zpX b, 4⟩, ⟨0x99, .staAbsY w, .absY w, 5⟩,
       ⟨0x9D, .staAbsX w, .absX w, 5⟩] ∧
    Stores s s.x
      [⟨0x86, .stxZp b, .zp b, 3⟩, ⟨0x8E, .stxAbs w, .abs w, 4⟩, ⟨0x96, .stxZpY b, .zpY b, 4⟩] ∧
    Stores s s.y
      [⟨0x84, .styZp b, .zp b, 3⟩, ⟨0x8C, .styAbs w, .abs w, 4⟩, ⟨0x94, .styZpX b, .zpX b, 4⟩]

/-- O33. TAX, TAY, TXA, TYA, TSX, TXS: the register copied, N and Z from it except for TXS (42_transfer_stack.md
R130, 42_transfer_stack.md R131, 42_transfer_stack.md R132, 42_transfer_stack.md R133, 42_transfer_stack.md R134,
42_transfer_stack.md R135). -/
def Obligations.Transfers : Prop :=
  ∀ s : State,
    Runs 0xAA .tax s (fun t => RegisterStep s t 2 { s with x := s.a, p := nz s.p s.a } (s.dummies [(.read, s.pc)])) ∧
    Runs 0xA8 .tay s (fun t => RegisterStep s t 2 { s with y := s.a, p := nz s.p s.a } (s.dummies [(.read, s.pc)])) ∧
    Runs 0x8A .txa s (fun t => RegisterStep s t 2 { s with a := s.x, p := nz s.p s.x } (s.dummies [(.read, s.pc)])) ∧
    Runs 0x98 .tya s (fun t => RegisterStep s t 2 { s with a := s.y, p := nz s.p s.y } (s.dummies [(.read, s.pc)])) ∧
    Runs 0xBA .tsx s (fun t =>
      RegisterStep s t 2 { s with x := s.sp, p := nz s.p s.sp } (s.dummies [(.read, s.pc)])) ∧
    Runs 0x9A .txs s (fun t => RegisterStep s t 2 { s with sp := s.x } (s.dummies [(.read, s.pc)]))

/-- O34. PHA and PHP write A or the status byte with bits 5 and 4 set to the slot at S and decrement S
(42_transfer_stack.md R136, 42_transfer_stack.md R137). -/
def Obligations.Pushes : Prop :=
  ∀ s : State,
    Runs 0x48 .pha s (fun t => WholeStep s t 3 { s with sp := s.sp - 1 } [(stackCell s.sp, s.a)]
      (s.dummies [(.read, s.pc)] ++ [(.write, stackSlot s.sp)])) ∧
    Runs 0x08 .php s (fun t => WholeStep s t 3 { s with sp := s.sp - 1 } [(stackCell s.sp, packP true s.p)]
      (s.dummies [(.read, s.pc)] ++ [(.write, stackSlot s.sp)])) ∧
    StatusByte (packP true s.p) s.p true

/-- O35. PLA and PLP increment S and load A (with N and Z) or the flags from the slot there (42_transfer_stack.md
R138). -/
def Obligations.Pulls : Prop :=
  ∀ s : State, ∃ v, v = s.mem.ram (stackCell (s.sp + 1)) ∧
    Runs 0x68 .pla s (fun t => RegisterStep s t 4 { s with a := v, sp := s.sp + 1, p := nz s.p v }
      (s.dummies [(.read, s.pc), (.read, stackSlot s.sp)] ++ [(.read, stackSlot (s.sp + 1))])) ∧
    Runs 0x28 .plp s (fun t => RegisterStep s t 4 { s with sp := s.sp + 1, p := flagsOf v }
      (s.dummies [(.read, s.pc), (.read, stackSlot s.sp)] ++ [(.read, stackSlot (s.sp + 1))]))

/-- O36. ADC in every mode adds in binary whatever D holds: A, the unsigned carry, the signed overflow, N and Z
(43_arith_logic.md R162). -/
def Obligations.AddWithCarry : Prop :=
  ∀ (s : State) (b : Byte) (w : Addr),
    Reads s s.added
      [⟨0x61, .adcIndX b, .indX b, 6⟩, ⟨0x65, .adcZp b, .zp b, 3⟩, ⟨0x69, .adcImm b, .imm b, 2⟩,
       ⟨0x6D, .adcAbs w, .abs w, 4⟩, ⟨0x71, .adcIndY b, .indY b, 5⟩, ⟨0x75, .adcZpX b, .zpX b, 4⟩,
       ⟨0x79, .adcAbsY w, .absY w, 4⟩, ⟨0x7D, .adcAbsX w, .absX w, 4⟩]

/-- O37. SBC in every mode subtracts in binary: A, C set for no borrow, the signed overflow, N and Z
(43_arith_logic.md R163). -/
def Obligations.SubtractWithBorrow : Prop :=
  ∀ (s : State) (b : Byte) (w : Addr),
    Reads s s.subtracted
      [⟨0xE1, .sbcIndX b, .indX b, 6⟩, ⟨0xE5, .sbcZp b, .zp b, 3⟩, ⟨0xE9, .sbcImm b, .imm b, 2⟩,
       ⟨0xED, .sbcAbs w, .abs w, 4⟩, ⟨0xF1, .sbcIndY b, .indY b, 5⟩, ⟨0xF5, .sbcZpX b, .zpX b, 4⟩,
       ⟨0xF9, .sbcAbsY w, .absY w, 4⟩, ⟨0xFD, .sbcAbsX w, .absX w, 4⟩]

/-- O38. AND, ORA, EOR in every mode: the bitwise result in A, N and Z from it, C and V kept (43_arith_logic.md
R164, 43_arith_logic.md R165, 43_arith_logic.md R166). -/
def Obligations.Logic : Prop :=
  ∀ (s : State) (b : Byte) (w : Addr),
    Reads s (fun v => { s with a := s.a &&& v, p := nz s.p (s.a &&& v) })
      [⟨0x21, .andIndX b, .indX b, 6⟩, ⟨0x25, .andZp b, .zp b, 3⟩, ⟨0x29, .andImm b, .imm b, 2⟩,
       ⟨0x2D, .andAbs w, .abs w, 4⟩, ⟨0x31, .andIndY b, .indY b, 5⟩, ⟨0x35, .andZpX b, .zpX b, 4⟩,
       ⟨0x39, .andAbsY w, .absY w, 4⟩, ⟨0x3D, .andAbsX w, .absX w, 4⟩] ∧
    Reads s (fun v => { s with a := s.a ||| v, p := nz s.p (s.a ||| v) })
      [⟨0x01, .oraIndX b, .indX b, 6⟩, ⟨0x05, .oraZp b, .zp b, 3⟩, ⟨0x09, .oraImm b, .imm b, 2⟩,
       ⟨0x0D, .oraAbs w, .abs w, 4⟩, ⟨0x11, .oraIndY b, .indY b, 5⟩, ⟨0x15, .oraZpX b, .zpX b, 4⟩,
       ⟨0x19, .oraAbsY w, .absY w, 4⟩, ⟨0x1D, .oraAbsX w, .absX w, 4⟩] ∧
    Reads s (fun v => { s with a := s.a ^^^ v, p := nz s.p (s.a ^^^ v) })
      [⟨0x41, .eorIndX b, .indX b, 6⟩, ⟨0x45, .eorZp b, .zp b, 3⟩, ⟨0x49, .eorImm b, .imm b, 2⟩,
       ⟨0x4D, .eorAbs w, .abs w, 4⟩, ⟨0x51, .eorIndY b, .indY b, 5⟩, ⟨0x55, .eorZpX b, .zpX b, 4⟩,
       ⟨0x59, .eorAbsY w, .absY w, 4⟩, ⟨0x5D, .eorAbsX w, .absX w, 4⟩]

/-- O39. CMP, CPX, CPY in every mode: C, Z and N from the comparison, no register written, V kept
(43_arith_logic.md R167, 43_arith_logic.md R168, 43_arith_logic.md R169). -/
def Obligations.Compares : Prop :=
  ∀ (s : State) (b : Byte) (w : Addr),
    Reads s (fun v => { s with p := compared s.p s.a v })
      [⟨0xC1, .cmpIndX b, .indX b, 6⟩, ⟨0xC5, .cmpZp b, .zp b, 3⟩, ⟨0xC9, .cmpImm b, .imm b, 2⟩,
       ⟨0xCD, .cmpAbs w, .abs w, 4⟩, ⟨0xD1, .cmpIndY b, .indY b, 5⟩, ⟨0xD5, .cmpZpX b, .zpX b, 4⟩,
       ⟨0xD9, .cmpAbsY w, .absY w, 4⟩, ⟨0xDD, .cmpAbsX w, .absX w, 4⟩] ∧
    Reads s (fun v => { s with p := compared s.p s.x v })
      [⟨0xE0, .cpxImm b, .imm b, 2⟩, ⟨0xE4, .cpxZp b, .zp b, 3⟩, ⟨0xEC, .cpxAbs w, .abs w, 4⟩] ∧
    Reads s (fun v => { s with p := compared s.p s.y v })
      [⟨0xC0, .cpyImm b, .imm b, 2⟩, ⟨0xC4, .cpyZp b, .zp b, 3⟩, ⟨0xCC, .cpyAbs w, .abs w, 4⟩]

/-- O40. BIT: Z from A and the byte, N and V from bits 7 and 6 of the byte (43_arith_logic.md R170). -/
def Obligations.BitTest : Prop :=
  ∀ (s : State) (b : Byte) (w : Addr),
    Reads s (fun v => { s with p := { s.p with z := decide (s.a &&& v = 0), n := v.msb, v := v.getLsbD 6 } })
      [⟨0x24, .bitZp b, .zp b, 3⟩, ⟨0x2C, .bitAbs w, .abs w, 4⟩]

/-- O41. INC and DEC: the byte read, the byte plus or minus 1 written back, N and Z from it, no page-cross penalty
(44_incdec_shift.md R180, 44_incdec_shift.md R181). -/
def Obligations.MemoryIncDec : Prop :=
  ∀ (s : State) (b : Byte) (w : Addr),
    Modifies s (fun v => v + 1) (fun u v => { u with p := nz u.p (v + 1) })
      [⟨0xE6, .incZp b, .zp b, 5⟩, ⟨0xEE, .incAbs w, .abs w, 6⟩, ⟨0xF6, .incZpX b, .zpX b, 6⟩,
       ⟨0xFE, .incAbsX w, .absX w, 7⟩] ∧
    Modifies s (fun v => v - 1) (fun u v => { u with p := nz u.p (v - 1) })
      [⟨0xC6, .decZp b, .zp b, 5⟩, ⟨0xCE, .decAbs w, .abs w, 6⟩, ⟨0xD6, .decZpX b, .zpX b, 6⟩,
       ⟨0xDE, .decAbsX w, .absX w, 7⟩]

/-- O42. INX, INY, DEX, DEY: the register plus or minus 1 modulo 256, N and Z from it (44_incdec_shift.md R182,
44_incdec_shift.md R183, 44_incdec_shift.md R184, 44_incdec_shift.md R185). -/
def Obligations.IndexIncDec : Prop :=
  ∀ s : State,
    Runs 0xE8 .inx s (fun t =>
      RegisterStep s t 2 { s with x := s.x + 1, p := nz s.p (s.x + 1) } (s.dummies [(.read, s.pc)])) ∧
    Runs 0xC8 .iny s (fun t =>
      RegisterStep s t 2 { s with y := s.y + 1, p := nz s.p (s.y + 1) } (s.dummies [(.read, s.pc)])) ∧
    Runs 0xCA .dex s (fun t =>
      RegisterStep s t 2 { s with x := s.x - 1, p := nz s.p (s.x - 1) } (s.dummies [(.read, s.pc)])) ∧
    Runs 0x88 .dey s (fun t =>
      RegisterStep s t 2 { s with y := s.y - 1, p := nz s.p (s.y - 1) } (s.dummies [(.read, s.pc)]))

/-- O43. ASL, LSR, ROL, ROR on A and on memory: the shifted byte, C the bit shifted out, N and Z from the result
(44_incdec_shift.md R186, 44_incdec_shift.md R187, 44_incdec_shift.md R188, 44_incdec_shift.md R189). -/
def Obligations.Shifts : Prop :=
  ∀ (s : State) (b : Byte) (w : Addr),
    Modifies s (fun v => v <<< 1)
      (fun u v => { u with p := { nz u.p (v <<< 1) with c := v.getLsbD 7 } })
      [⟨0x06, .aslZp b, .zp b, 5⟩, ⟨0x0E, .aslAbs w, .abs w, 6⟩, ⟨0x16, .aslZpX b, .zpX b, 6⟩,
       ⟨0x1E, .aslAbsX w, .absX w, 7⟩] ∧
    Runs 0x0A .aslAcc s (fun t => RegisterStep s t 2
      { s with
        a := s.a <<< 1
        p := { nz s.p (s.a <<< 1) with c := s.a.getLsbD 7 } }
      (s.dummies [(.read, s.pc)])) ∧
    Modifies s (fun v => v >>> 1)
      (fun u v => { u with p := { nz u.p (v >>> 1) with c := v.getLsbD 0 } })
      [⟨0x46, .lsrZp b, .zp b, 5⟩, ⟨0x4E, .lsrAbs w, .abs w, 6⟩, ⟨0x56, .lsrZpX b, .zpX b, 6⟩,
       ⟨0x5E, .lsrAbsX w, .absX w, 7⟩] ∧
    Runs 0x4A .lsrAcc s (fun t => RegisterStep s t 2
      { s with
        a := s.a >>> 1
        p := { nz s.p (s.a >>> 1) with c := s.a.getLsbD 0 } }
      (s.dummies [(.read, s.pc)])) ∧
    Modifies s (fun v => (v <<< 1) ||| carry s.p)
      (fun u v => { u with p := { nz u.p ((v <<< 1) ||| carry s.p) with c := v.getLsbD 7 } })
      [⟨0x26, .rolZp b, .zp b, 5⟩, ⟨0x2E, .rolAbs w, .abs w, 6⟩, ⟨0x36, .rolZpX b, .zpX b, 6⟩,
       ⟨0x3E, .rolAbsX w, .absX w, 7⟩] ∧
    Runs 0x2A .rolAcc s (fun t => RegisterStep s t 2
      { s with
        a := (s.a <<< 1) ||| carry s.p
        p := { nz s.p ((s.a <<< 1) ||| carry s.p) with c := s.a.getLsbD 7 } }
      (s.dummies [(.read, s.pc)])) ∧
    Modifies s (fun v => (carry s.p <<< 7) ||| (v >>> 1))
      (fun u v => { u with p := { nz u.p ((carry s.p <<< 7) ||| (v >>> 1)) with c := v.getLsbD 0 } })
      [⟨0x66, .rorZp b, .zp b, 5⟩, ⟨0x6E, .rorAbs w, .abs w, 6⟩, ⟨0x76, .rorZpX b, .zpX b, 6⟩,
       ⟨0x7E, .rorAbsX w, .absX w, 7⟩] ∧
    Runs 0x6A .rorAcc s (fun t => RegisterStep s t 2
      { s with
        a := (carry s.p <<< 7) ||| (s.a >>> 1)
        p := { nz s.p ((carry s.p <<< 7) ||| (s.a >>> 1)) with c := s.a.getLsbD 0 } }
      (s.dummies [(.read, s.pc)]))

/-- O44. JMP absolute and indirect: PC becomes the target, whose high byte stays in the pointer's page
(45_control.md R200, 40_addressing.md R107, 40_addressing.md R113). -/
def Obligations.Jumps : Prop :=
  ∀ (s : State) (w : Addr),
    Runs 0x4C (.jmpAbs w) s (fun t => RegisterStep s t 3 { s with pc := w } []) ∧
    Runs 0x6C (.jmpInd w) s (fun t => ∃ lo hi second,
      second.toNat = w.toNat / 256 * 256 + (w.toNat + 1) % 256 ∧
      t.trace.take 2 = [⟨.read, second, hi⟩, ⟨.read, w, lo⟩] ∧
      (∀ b, s.heldByte w = some b → lo = b) ∧ (∀ b, s.heldByte second = some b → hi = b) ∧
      RegisterStep s t 5 { s with pc := word hi lo } [(.read, w), (.read, second)])

/-- O45. JSR pushes the address of its last byte, high byte first, then fetches the target's high byte and jumps
(45_control.md R201). -/
def Obligations.JumpToSubroutine : Prop :=
  ∀ (s : State) (w : Addr), Runs 0x20 (.jsr w) s (fun t => ∃ hi,
      t.trace.head? = some ⟨.read, s.pc, hi⟩ ∧
      (∀ b, ({ s with
        mem := (s.mem.write (stackCell s.sp) (hiByte s.pc)).write (stackCell (s.sp - 1)) (loByte s.pc) } : State).heldByte
          s.pc = some b → hi = b) ∧
      WholeStep s t 6 { s with sp := s.sp - 2, pc := word hi (loByte w) }
        [(stackCell (s.sp - 1), loByte s.pc), (stackCell s.sp, hiByte s.pc)]
        (s.dummies [(.read, stackSlot s.sp)] ++
          [(.write, stackSlot s.sp), (.write, stackSlot (s.sp - 1)), (.read, s.pc)]))

/-- O46. RTS pulls the link, low byte first, and goes one past it (45_control.md R202). -/
def Obligations.ReturnFromSubroutine : Prop :=
  ∀ s : State, ∃ link, link = word (s.mem.ram (stackCell (s.sp + 2))) (s.mem.ram (stackCell (s.sp + 1))) ∧
    Runs 0x60 .rts s (fun t => RegisterStep s t 6 { s with sp := s.sp + 2, pc := link + 1 }
      (s.dummies [(.read, s.pc), (.read, stackSlot s.sp)] ++
        [(.read, stackSlot (s.sp + 1)), (.read, stackSlot (s.sp + 2))] ++ s.dummies [(.read, link)]))

/-- O47. RTI pulls the status byte, then PC, low byte first, with nothing added (45_control.md R203,
60_exceptions.md R279). -/
def Obligations.ReturnFromInterrupt : Prop :=
  ∀ s : State, Runs 0x40 .rti s (fun t => RegisterStep s t 6
      { s with
        sp := s.sp + 3
        pc := word (s.mem.ram (stackCell (s.sp + 3))) (s.mem.ram (stackCell (s.sp + 2)))
        p := flagsOf (s.mem.ram (stackCell (s.sp + 1))) }
      (s.dummies [(.read, s.pc), (.read, stackSlot s.sp)] ++
        [(.read, stackSlot (s.sp + 1)), (.read, stackSlot (s.sp + 2)), (.read, stackSlot (s.sp + 3))]))

/-- O48. BRK pushes the address past its padding byte and the status byte with bit 4 set, sets I, goes through
0xFFFE (45_control.md R204, 60_exceptions.md R277). -/
def Obligations.Break : Prop :=
  ∀ s : State, Runs 0x00 .brk s (fun t =>
      EntryStep s t (s.pc + 1) true { s.p with i := true } s.nmiPending 0xFFFE (s.dummies [(.read, s.pc)]))

/-- O49. The eight branches: taken on their flag, to the next instruction plus the signed offset, 2, 3 or 4 cycles
(45_control.md R205, 45_control.md R206, 45_control.md R207, 45_control.md R208, 45_control.md R209, 45_control.md
R210, 45_control.md R211, 45_control.md R212, 45_control.md R213). -/
def Obligations.Branches : Prop :=
  ∀ (s : State) (off : Byte) (target : Addr), target = s.pc + off.signExtend 16 →
    ∀ f ∈ [((0x90 : Byte), Instr.bcc off, !s.p.c), (0xB0, .bcs off, s.p.c), (0xF0, .beq off, s.p.z),
      (0xD0, .bne off, !s.p.z), (0x30, .bmi off, s.p.n), (0x10, .bpl off, !s.p.n), (0x50, .bvc off, !s.p.v),
      (0x70, .bvs off, s.p.v)],
    Runs f.1 f.2.1 s (fun t =>
      (f.2.2 = false → RegisterStep s t 2 s []) ∧
      (f.2.2 = true → s.pc.toNat / 256 = target.toNat / 256 →
        RegisterStep s t 3 { s with pc := target } (s.dummies [(.read, s.pc)])) ∧
      (f.2.2 = true → s.pc.toNat / 256 ≠ target.toNat / 256 →
        RegisterStep s t 4 { s with pc := target } (s.dummies [(.read, s.pc), (.read, inPageOf s.pc target)])))

/-- O50. CLC, SEC, CLI, SEI, CLD, SED, CLV write their one flag; NOP writes nothing (46_flags_misc.md R220,
46_flags_misc.md R221, 46_flags_misc.md R226, 46_flags_misc.md R227). -/
def Obligations.FlagInstructions : Prop :=
  ∀ s : State,
    Runs 0x18 .clc s (fun t =>
      RegisterStep s t 2 { s with p := { s.p with c := false } } (s.dummies [(.read, s.pc)])) ∧
    Runs 0x38 .sec s (fun t =>
      RegisterStep s t 2 { s with p := { s.p with c := true } } (s.dummies [(.read, s.pc)])) ∧
    Runs 0x58 .cli s (fun t =>
      RegisterStep s t 2 { s with p := { s.p with i := false } } (s.dummies [(.read, s.pc)])) ∧
    Runs 0x78 .sei s (fun t =>
      RegisterStep s t 2 { s with p := { s.p with i := true } } (s.dummies [(.read, s.pc)])) ∧
    Runs 0xD8 .cld s (fun t =>
      RegisterStep s t 2 { s with p := { s.p with d := false } } (s.dummies [(.read, s.pc)])) ∧
    Runs 0xF8 .sed s (fun t =>
      RegisterStep s t 2 { s with p := { s.p with d := true } } (s.dummies [(.read, s.pc)])) ∧
    Runs 0xB8 .clv s (fun t =>
      RegisterStep s t 2 { s with p := { s.p with v := false } } (s.dummies [(.read, s.pc)])) ∧
    Runs 0xEA .nop s (fun t => RegisterStep s t 2 s (s.dummies [(.read, s.pc)]))

/-- O51. The 27 unofficial NOPs under Semantic: the operand is read and discarded, nothing else (47_unofficial.md
R234, 40_addressing.md R116). The dummy read of the implied forms is entry 26, DEDUCED. -/
def Obligations.UnofficialNops : Prop :=
  ∀ (s : State) (b : Byte) (w : Addr), s.cfg.policy = .semantic →
    Reads s (fun _ => s)
      [⟨0x04, .nop04 b, .zp b, 3⟩, ⟨0x0C, .nop0C w, .abs w, 4⟩, ⟨0x14, .nop14 b, .zpX b, 4⟩,
       ⟨0x1C, .nop1C w, .absX w, 4⟩, ⟨0x34, .nop34 b, .zpX b, 4⟩, ⟨0x3C, .nop3C w, .absX w, 4⟩,
       ⟨0x44, .nop44 b, .zp b, 3⟩, ⟨0x54, .nop54 b, .zpX b, 4⟩, ⟨0x5C, .nop5C w, .absX w, 4⟩,
       ⟨0x64, .nop64 b, .zp b, 3⟩, ⟨0x74, .nop74 b, .zpX b, 4⟩, ⟨0x7C, .nop7C w, .absX w, 4⟩,
       ⟨0x80, .nop80 b, .imm b, 2⟩, ⟨0x82, .nop82 b, .imm b, 2⟩, ⟨0x89, .nop89 b, .imm b, 2⟩,
       ⟨0xC2, .nopC2 b, .imm b, 2⟩, ⟨0xD4, .nopD4 b, .zpX b, 4⟩, ⟨0xDC, .nopDC w, .absX w, 4⟩,
       ⟨0xE2, .nopE2 b, .imm b, 2⟩, ⟨0xF4, .nopF4 b, .zpX b, 4⟩, ⟨0xFC, .nopFC w, .absX w, 4⟩] ∧
    ∀ f ∈ [((0x1A : Byte), Instr.nop1A), (0x3A, .nop3A), (0x5A, .nop5A), (0x7A, .nop7A), (0xDA, .nopDA), (0xFA, .nopFA)],
      Runs f.1 f.2 s (fun t => RegisterStep s t 2 s (s.dummies [(.read, s.pc)]))

/-- O52. SLO, RLA, SRE, RRA under Semantic: the memory byte shifted or rotated, then combined with A
(47_unofficial.md R235, 47_unofficial.md R236, 47_unofficial.md R237, 47_unofficial.md R238). -/
def Obligations.UnofficialShifts : Prop :=
  ∀ (s : State) (b : Byte) (w : Addr), s.cfg.policy = .semantic →
    Modifies s (fun v => v <<< 1)
      (fun u v => { u with a := u.a ||| (v <<< 1), p := { nz u.p (u.a ||| (v <<< 1)) with c := v.getLsbD 7 } })
      [⟨0x03, .sloIndX b, .indX b, 8⟩, ⟨0x07, .sloZp b, .zp b, 5⟩, ⟨0x0F, .sloAbs w, .abs w, 6⟩,
       ⟨0x13, .sloIndY b, .indY b, 8⟩, ⟨0x17, .sloZpX b, .zpX b, 6⟩, ⟨0x1B, .sloAbsY w, .absY w, 7⟩,
       ⟨0x1F, .sloAbsX w, .absX w, 7⟩] ∧
    Modifies s (fun v => (v <<< 1) ||| carry s.p)
      (fun u v => { u with
        a := u.a &&& ((v <<< 1) ||| carry s.p)
        p := { nz u.p (u.a &&& ((v <<< 1) ||| carry s.p)) with c := v.getLsbD 7 } })
      [⟨0x23, .rlaIndX b, .indX b, 8⟩, ⟨0x27, .rlaZp b, .zp b, 5⟩, ⟨0x2F, .rlaAbs w, .abs w, 6⟩,
       ⟨0x33, .rlaIndY b, .indY b, 8⟩, ⟨0x37, .rlaZpX b, .zpX b, 6⟩, ⟨0x3B, .rlaAbsY w, .absY w, 7⟩,
       ⟨0x3F, .rlaAbsX w, .absX w, 7⟩] ∧
    Modifies s (fun v => v >>> 1)
      (fun u v => { u with a := u.a ^^^ (v >>> 1), p := { nz u.p (u.a ^^^ (v >>> 1)) with c := v.getLsbD 0 } })
      [⟨0x43, .sreIndX b, .indX b, 8⟩, ⟨0x47, .sreZp b, .zp b, 5⟩, ⟨0x4F, .sreAbs w, .abs w, 6⟩,
       ⟨0x53, .sreIndY b, .indY b, 8⟩, ⟨0x57, .sreZpX b, .zpX b, 6⟩, ⟨0x5B, .sreAbsY w, .absY w, 7⟩,
       ⟨0x5F, .sreAbsX w, .absX w, 7⟩] ∧
    Modifies s (fun v => (carry s.p <<< 7) ||| (v >>> 1))
      (fun u v => ({ u with p := { u.p with c := v.getLsbD 0 } } : State).added ((carry s.p <<< 7) ||| (v >>> 1)))
      [⟨0x63, .rraIndX b, .indX b, 8⟩, ⟨0x67, .rraZp b, .zp b, 5⟩, ⟨0x6F, .rraAbs w, .abs w, 6⟩,
       ⟨0x73, .rraIndY b, .indY b, 8⟩, ⟨0x77, .rraZpX b, .zpX b, 6⟩, ⟨0x7B, .rraAbsY w, .absY w, 7⟩,
       ⟨0x7F, .rraAbsX w, .absX w, 7⟩]

/-- O53. LAX, LAS, SAX under Semantic: load A and X, and memory with S, store A and X (47_unofficial.md R239,
47_unofficial.md R240, 47_unofficial.md R248). -/
def Obligations.UnofficialLoadsStores : Prop :=
  ∀ (s : State) (b : Byte) (w : Addr), s.cfg.policy = .semantic →
    Reads s (fun v => { s with a := v, x := v, p := nz s.p v })
      [⟨0xA3, .laxIndX b, .indX b, 6⟩, ⟨0xA7, .laxZp b, .zp b, 3⟩, ⟨0xAF, .laxAbs w, .abs w, 4⟩,
       ⟨0xB3, .laxIndY b, .indY b, 5⟩, ⟨0xB7, .laxZpY b, .zpY b, 4⟩, ⟨0xBF, .laxAbsY w, .absY w, 4⟩] ∧
    Reads s (fun v => { s with a := v &&& s.sp, x := v &&& s.sp, sp := v &&& s.sp, p := nz s.p (v &&& s.sp) })
      [⟨0xBB, .las w, .absY w, 4⟩] ∧
    Stores s (s.a &&& s.x)
      [⟨0x83, .saxIndX b, .indX b, 6⟩, ⟨0x87, .saxZp b, .zp b, 3⟩, ⟨0x8F, .saxAbs w, .abs w, 4⟩,
       ⟨0x97, .saxZpY b, .zpY b, 4⟩]

/-- O54. DCP and ISC under Semantic: the memory byte decremented and compared, or incremented and subtracted
(47_unofficial.md R241, 47_unofficial.md R242). -/
def Obligations.UnofficialDcpIsc : Prop :=
  ∀ (s : State) (b : Byte) (w : Addr), s.cfg.policy = .semantic →
    Modifies s (fun v => v - 1) (fun u v => { u with p := compared u.p u.a (v - 1) })
      [⟨0xC3, .dcpIndX b, .indX b, 8⟩, ⟨0xC7, .dcpZp b, .zp b, 5⟩, ⟨0xCF, .dcpAbs w, .abs w, 6⟩,
       ⟨0xD3, .dcpIndY b, .indY b, 8⟩, ⟨0xD7, .dcpZpX b, .zpX b, 6⟩, ⟨0xDB, .dcpAbsY w, .absY w, 7⟩,
       ⟨0xDF, .dcpAbsX w, .absX w, 7⟩] ∧
    Modifies s (fun v => v + 1) (fun u v => u.subtracted (v + 1))
      [⟨0xE3, .iscIndX b, .indX b, 8⟩, ⟨0xE7, .iscZp b, .zp b, 5⟩, ⟨0xEF, .iscAbs w, .abs w, 6⟩,
       ⟨0xF3, .iscIndY b, .indY b, 8⟩, ⟨0xF7, .iscZpX b, .zpX b, 6⟩, ⟨0xFB, .iscAbsY w, .absY w, 7⟩,
       ⟨0xFF, .iscAbsX w, .absX w, 7⟩]

/-- O55. ANC, ALR, ARR, AXS and the SBC at 0xEB under Semantic (47_unofficial.md R243, 47_unofficial.md R244,
47_unofficial.md R245, 47_unofficial.md R246, 47_unofficial.md R247). -/
def Obligations.UnofficialImmediates : Prop :=
  ∀ (s : State) (b : Byte), s.cfg.policy = .semantic →
    Reads s (fun v => { s with a := s.a &&& v, p := { nz s.p (s.a &&& v) with c := (s.a &&& v).msb } })
      [⟨0x0B, .anc0B b, .imm b, 2⟩, ⟨0x2B, .anc2B b, .imm b, 2⟩] ∧
    Reads s (fun v =>
      { s with a := (s.a &&& v) >>> 1, p := { nz s.p ((s.a &&& v) >>> 1) with c := (s.a &&& v).getLsbD 0 } })
      [⟨0x4B, .alr b, .imm b, 2⟩] ∧
    Reads s (fun v => { s with
        a := (carry s.p <<< 7) ||| ((s.a &&& v) >>> 1)
        p := { nz s.p ((carry s.p <<< 7) ||| ((s.a &&& v) >>> 1)) with
          c := ((carry s.p <<< 7) ||| ((s.a &&& v) >>> 1)).getLsbD 6
          v := ((carry s.p <<< 7) ||| ((s.a &&& v) >>> 1)).getLsbD 6 ^^
            ((carry s.p <<< 7) ||| ((s.a &&& v) >>> 1)).getLsbD 5 } })
      [⟨0x6B, .arr b, .imm b, 2⟩] ∧
    Reads s (fun v => { s with
        x := (s.a &&& s.x) - v
        p := { nz s.p ((s.a &&& s.x) - v) with c := decide (v.toNat ≤ (s.a &&& s.x).toNat) } })
      [⟨0xCB, .axs b, .imm b, 2⟩] ∧
    Reads s s.subtracted
      [⟨0xEB, .sbcEB b, .imm b, 2⟩]

/-- O56. The 12 JAM opcodes under Semantic halt the CPU: no cost, no cycle, nothing else changed (47_unofficial.md
R254, 10_state.md R38, 40_addressing.md R116). -/
def Obligations.JamHalts : Prop :=
  ∀ s : State, s.cfg.policy = .semantic →
    ∀ f ∈ [((0x02 : Byte), Instr.jam02), (0x12, .jam12), (0x22, .jam22), (0x32, .jam32), (0x42, .jam42), (0x52, .jam52),
      (0x62, .jam62), (0x72, .jam72), (0x92, .jam92), (0xB2, .jamB2), (0xD2, .jamD2), (0xF2, .jamF2)],
      Runs f.1 f.2 s (fun t => t.cpu = ({ s with halted := true } : State).cpu ∧ Written s t [] ∧ t.lastCost = none ∧
        t.cycles = s.cycles ∧ t.dmaWritten = s.dmaWritten ∧ Accessed s t (s.dummies [(.read, s.pc)]))

/-- O57. Under Nop every unofficial opcode but JAM is a no-op of its row's base cost with no access; JAM is refused
(47_unofficial.md R232, 40_addressing.md R116). That DummyAccesses = true adds no access is entry 17, DEDUCED. -/
def Obligations.NopPolicy : Prop :=
  ∀ (i : Instr) (s : State), s.cfg.policy = .nop →
    (i.row.cls = .stable ∨ i.row.cls = .unstable → fetchedFirst i.opcode = i.row.mode.length ∧
      ∃ base t, i.row.cycles = some base ∧ exec i s = .next t ∧ RegisterStep s t base s []) ∧
    (i.row.cls = .jam → exec i s = .refused (.unofficial i.opcode))

/-- O58. A step that writes 0x4014 costs the bus's DMA stall on top of its own cost, whichever instruction writes
(20_memory.md R62, 20_memory.md R70, 70_reset_and_hazards.md R307). The stall's free value is entry 11, the
devices' catch-up entry 12, the model's choice. -/
def Obligations.DmaStallIsCharged : Prop :=
  (∀ (i : Instr) (s t : State), exec i s = .next t → startsDma (newAccesses s t) = true →
      ∃ base d, i.row.cycles = some base ∧ d = tokenAfter s.devices (newAccesses s t) ∧
        t.lastCost = some (base + Config.dmaStall d) ∧
        t.cycles = (s.cycles + (base + Config.dmaStall d)) % 2 ^ s.cfg.cycleWidth ∧
        t.devices = Config.busAfterCycles d (base + Config.dmaStall d)) ∧
    ∀ s : State, ∃ t d, d = Config.busAfterWrite s.devices 0x4014 s.a ∧ exec (.staAbs 0x4014) s = .next t ∧
      newAccesses s t = [⟨.write, 0x4014, s.a⟩] ∧ t.lastCost = some (4 + Config.dmaStall d) ∧
      t.cycles = (s.cycles + (4 + Config.dmaStall d)) % 2 ^ s.cfg.cycleWidth

/-- O59. A snapshot load puts back the CPU state, RAM and devices, and the restored machine's next steps are the
saved one's (60_exceptions.md R290, 60_exceptions.md R284, 10_state.md R21, 95_test_vectors.md E4). What a load
keeps, and that it takes the place of one step, are the model's choice (entries 9, 31 and 32). -/
def Obligations.SnapshotRestores : Prop :=
  ∀ (u : State) (b : Boundary) (rest : List Boundary) (k : Snapshot), u.inputs = b :: rest → b.call = some (.load k) →
    ∃ t, step u = .next t ∧
      t.cpu = ({ u with
        a := k.a, x := k.x, y := k.y, sp := k.sp, pc := k.pc, p := k.p, nmiPending := k.nmiPending, halted := k.halted
        romSwitched := k.romSwitched, irqLine := b.irq, inputs := rest } : State).cpu ∧
      t.cycles = k.cycles % 2 ^ u.cfg.cycleWidth ∧ t.dataBus = k.dataBus ∧ t.devices = k.devices ∧
      (∀ c, c < 0x800 → t.mem.ram c = k.ram.getD c 0) ∧ (∀ a, 0x8000 ≤ a → t.mem.read a = u.mem.read a) ∧
      t.trace = u.trace ∧ t.lastCost = none ∧ t.dmaWritten = false ∧
      ∀ s : State, k = s.save → s.Legal → u.Legal → SameConsole s u → s.irqLine = b.irq → s.inputs = rest →
        { t with trace := s.trace, lastCost := s.lastCost } = s ∧ ∀ n, t.registerTrace n = s.registerTrace n

/-- O60. The devices are handed every access outside RAM once and in order, a PPU register at 0x2000 + (a & 7)
(20_memory.md R51, 20_memory.md R52, 20_memory.md R55, 20_memory.md R57, 20_memory.md R62, 20_memory.md R70). The
oracle, its token and what it is handed are the model's choice (entries 2, 12, 14, 22 and 23). -/
def Obligations.DeviceAccesses : Prop :=
  (∀ (s : State) (a seen : Addr) (v : Byte), 0x2000 ≤ a.toNat → a.toNat ≤ 0x4017 →
      seen.toNat = (if a.toNat < 0x4000 then 0x2000 + a.toNat % 8 else a.toNat) →
      s.busByte a = (Config.busAnswer s.devices seen).getD s.dataBus ∧
      s.busRead a = { s with
        dataBus := s.busByte a, devices := Config.busAfterRead s.devices seen
        trace := ⟨.read, a, s.busByte a⟩ :: s.trace } ∧
      s.busWrite a v = { s with
        dataBus := v, devices := Config.busAfterWrite s.devices seen v, dmaWritten := s.dmaWritten || decide (a = 0x4014)
        trace := ⟨.write, a, v⟩ :: s.trace }) ∧
    ∀ (i : Instr) (s t : State), exec i s = .next t → ∃ d, d = tokenAfter s.devices (newAccesses s t) ∧
      ((i.row.cls = .jam ∧ t.devices = d) ∨
        ∃ cost, t.lastCost = some cost ∧ t.devices = Config.busAfterCycles d cost)
end

