-- ==== Sys2Proof/Laws/Memory.lean ====
section
/-! SUPPORT. Reading what was written, and the canonical form, of every memory operation. -/

namespace Sys2Proof.Machine

open Sys2Proof

/-! ## Reading after an operation -/

theorem Memory.read_erase (m : Memory) (a k : Nat) :
    (m.erase a).read k = if k = a then Memory.unlisted a else m.read k := by
  induction m with
  | nil => by_cases h : k = a <;> simp [Memory.erase, Memory.read, h]
  | cons e m ih =>
    by_cases he : e.1 = a <;> by_cases hk : k = a <;> simp_all [Memory.erase, Memory.read]
    intro h; exact absurd h.symm hk

theorem Memory.read_put (m : Memory) (a k : Nat) (b : Byte) :
    (m.put a b).read k = if k = a then some b else m.read k := by
  unfold Memory.put
  split
  · rename_i h; rw [Memory.read_erase, h]
  · by_cases hk : k = a
    · simp [Memory.read, hk]
    · simp [Memory.read, hk, Ne.symm hk]

/-- A read after a write: the byte written at its address, every other address as before. -/
theorem Memory.read_write (m : Memory) (a k : Nat) (b : Byte) :
    (m.write a b).read k = if k = a then some b else m.read k := by
  induction m with
  | nil => exact Memory.read_put [] a k b
  | cons e m ih =>
    obtain ⟨k', c⟩ := e
    unfold Memory.write
    split
    · exact Memory.read_put _ a k b
    · split
      · rename_i h; subst h
        rw [Memory.read_put]
        by_cases hk : k = a
        · simp [hk]
        · simp [Memory.read, hk, Ne.symm hk]
      · rename_i h1 h2
        by_cases hk' : k' = k
        · subst hk'; simp [Memory.read, Ne.symm h2]
        · simp [Memory.read, hk', ih]

theorem Memory.ram_write (m : Memory) (a c : Nat) (b : Byte) :
    (m.write a b).ram c = if c = a then b else m.ram c := by
  unfold Memory.ram; rw [Memory.read_write]; split <;> simp

/-- A RAM cell always holds a byte. -/
theorem Memory.read_ram (m : Memory) (c : Nat) (h : c < ramSize) : m.read c = some (m.ram c) := by
  unfold Memory.ram
  suffices (m.read c).isSome by
    obtain ⟨b, hb⟩ := Option.isSome_iff_exists.mp this; simp [hb]
  induction m with
  | nil => simp [Memory.read, Memory.unlisted, h]
  | cons e m ih =>
    obtain ⟨k, b⟩ := e
    unfold Memory.read; split <;> simp [ih]

theorem Memory.read_ofBytes (limit a k : Nat) (bs : List Byte) :
    (Memory.ofBytes limit a bs).read k =
      if a ≤ k ∧ k < limit ∧ k - a < bs.length then bs[k - a]? else Memory.unlisted k := by
  induction bs generalizing a with
  | nil => simp [Memory.ofBytes, Memory.read]
  | cons b bs ih =>
    unfold Memory.ofBytes
    by_cases hl : a < limit
    · rw [if_pos hl]
      have tail := ih (a + 1)
      by_cases hk : k = a
      · subst hk
        have e1 : ¬ (k + 1 ≤ k) := by omega
        split
        · rename_i hu
          rw [tail]; simp [hl, hu]
        · simp [Memory.read, hl]
      · have e2 : (a + 1 ≤ k ∧ k < limit ∧ k - (a + 1) < bs.length) ↔
            (a ≤ k ∧ k < limit ∧ k - a < (b :: bs).length) := by simp; omega
        have e3 : a ≤ k → (b :: bs)[k - a]? = bs[k - (a + 1)]? := by
          intro h
          have : k - a = (k - (a + 1)) + 1 := by omega
          rw [this]; rfl
        have goal : (Memory.ofBytes limit (a + 1) bs).read k =
            if a ≤ k ∧ k < limit ∧ k - a < (b :: bs).length then (b :: bs)[k - a]? else Memory.unlisted k := by
          rw [tail]
          by_cases hc : a + 1 ≤ k ∧ k < limit ∧ k - (a + 1) < bs.length
          · rw [if_pos hc, if_pos (e2.mp hc), e3 (by omega)]
          · rw [if_neg hc, if_neg (fun h => hc (e2.mpr h))]
        split
        · exact goal
        · rw [Memory.read, if_neg (Ne.symm hk)]; exact goal
    · rw [if_neg hl, if_neg (by omega)]; rfl

/-- Program ROM is kept, everything below it is gone. -/
theorem Memory.read_rom (m : Memory) (k : Nat) : m.rom.read k = if romBase ≤ k then m.read k else Memory.unlisted k := by
  induction m with
  | nil =>
    show Memory.unlisted k = if romBase ≤ k then Memory.unlisted k else Memory.unlisted k
    split <;> rfl
  | cons e m ih =>
    obtain ⟨k', b⟩ := e
    unfold Memory.rom at ih ⊢
    rw [List.filter_cons]
    by_cases h : romBase ≤ k'
    · rw [if_pos (by simpa using h), Memory.read, Memory.read, ih]
      by_cases hk : k' = k
      · subst hk; rw [if_pos rfl, if_pos h, if_pos rfl]
      · rw [if_neg hk, if_neg hk]
    · rw [if_neg (by simpa using h), ih]
      by_cases hk : romBase ≤ k
      · rw [if_pos hk, if_pos hk, Memory.read, if_neg (by omega)]
      · rw [if_neg hk, if_neg hk]

/-! ## The canonical form -/

theorem Memory.wfFrom_mono {lo lo' : Nat} {m : Memory} (h : Memory.wfFrom lo m = true) (hl : lo' ≤ lo) :
    Memory.wfFrom lo' m = true := by
  cases m with
  | nil => rfl
  | cons e m => simp only [Memory.wfFrom, Bool.and_eq_true, decide_eq_true_eq] at h ⊢; exact ⟨⟨by omega, h.1.2⟩, h.2⟩

theorem Memory.wfFrom_cons {lo : Nat} {e : Host.Cell} {m : Memory} :
    Memory.wfFrom lo (e :: m) = true ↔ lo ≤ e.1 ∧ Memory.entryOk e = true ∧ Memory.wfFrom (e.1 + 1) m = true := by
  simp [Memory.wfFrom, and_assoc]

/-- Erasing below a list's first address changes nothing. -/
theorem Memory.erase_of_lt {lo a : Nat} {m : Memory} (h : Memory.wfFrom lo m = true) (ha : a < lo) : m.erase a = m := by
  induction m generalizing lo with
  | nil => rfl
  | cons e m ih =>
    rw [Memory.wfFrom_cons] at h
    rw [Memory.erase, if_neg (by omega), ih h.2.2 (by omega)]

theorem Memory.put_wf {lo a : Nat} {b : Byte} {m : Memory} (hm : Memory.wfFrom (a + 1) m = true) (hl : lo ≤ a)
    (ha : Memory.holds a = true) : Memory.wfFrom lo (m.put a b) = true := by
  unfold Memory.put
  split
  · rw [Memory.erase_of_lt hm (by omega)]; exact Memory.wfFrom_mono hm (by omega)
  · rename_i h
    rw [Memory.wfFrom_cons]
    refine ⟨hl, ?_, hm⟩
    simp only [Memory.entryOk, ha, Bool.true_and, bne_iff_ne, ne_eq]
    exact h

theorem Memory.write_wfFrom {lo a : Nat} {b : Byte} {m : Memory} (hm : Memory.wfFrom lo m = true) (hl : lo ≤ a)
    (ha : Memory.holds a = true) : Memory.wfFrom lo (m.write a b) = true := by
  induction m generalizing lo with
  | nil => exact Memory.put_wf rfl hl ha
  | cons e m ih =>
    obtain ⟨k, c⟩ := e
    have h := hm
    rw [Memory.wfFrom_cons] at h
    unfold Memory.write
    split
    · exact Memory.put_wf (by rw [Memory.wfFrom_cons]; exact ⟨by omega, h.2⟩) hl ha
    · split
      · rename_i h2; subst h2; exact Memory.put_wf h.2.2 hl ha
      · rw [Memory.wfFrom_cons]
        exact ⟨h.1, h.2.1, ih h.2.2 (by have := h.1; simp only at *; omega)⟩

/-- A write keeps the canonical form, so equal memories are equal data. -/
theorem Memory.write_wf {a : Nat} {b : Byte} {m : Memory} (hm : Memory.wf m = true) (ha : Memory.holds a = true) :
    Memory.wf (m.write a b) = true := Memory.write_wfFrom hm (Nat.zero_le a) ha

theorem Memory.ofBytes_wf (limit a : Nat) (bs : List Byte) (h : ∀ k, a ≤ k → k < limit → Memory.holds k = true) :
    Memory.wfFrom a (Memory.ofBytes limit a bs) = true := by
  induction bs generalizing a with
  | nil => rfl
  | cons b bs ih =>
    unfold Memory.ofBytes
    have tail := ih (a + 1) (fun k h1 h2 => h k (by omega) h2)
    split
    · split
      · exact Memory.wfFrom_mono tail (by omega)
      · rename_i hl hu
        rw [Memory.wfFrom_cons]
        refine ⟨le_refl _, ?_, tail⟩
        simp only [Memory.entryOk, h a (le_refl a) hl, Bool.true_and, bne_iff_ne, ne_eq]
        exact hu
    · rfl

theorem Memory.rom_wf {lo : Nat} {m : Memory} (h : Memory.wfFrom lo m = true) : Memory.wfFrom romBase m.rom = true := by
  have low {lo : Nat} {m : Memory} (h : Memory.wfFrom lo m = true) (hl : romBase ≤ lo) : m.rom = m := by
    induction m generalizing lo with
    | nil => rfl
    | cons e m ih =>
      rw [Memory.wfFrom_cons] at h
      unfold Memory.rom at ih ⊢
      rw [List.filter_cons, if_pos (by have := h.1; simp; omega), ih h.2.2 (by omega)]
  induction m generalizing lo with
  | nil => rfl
  | cons e m ih =>
    have h' := h
    rw [Memory.wfFrom_cons] at h
    by_cases hk : romBase ≤ e.1
    · have h2 : Memory.wfFrom romBase (e :: m) = true := by
        rw [Memory.wfFrom_cons]; exact ⟨hk, h.2⟩
      rw [low h2 (le_refl _)]; exact h2
    · unfold Memory.rom at ih ⊢
      rw [List.filter_cons, if_neg (by simpa using hk)]
      exact ih h.2.2

/-- Putting a canonical part with higher addresses behind another keeps the canonical form. -/
theorem Memory.append_wf {lo mid : Nat} {m n : Memory} (hm : Memory.wfFrom lo m = true)
    (hn : Memory.wfFrom mid n = true) (hlo : lo ≤ mid) (h : ∀ e ∈ m, e.1 < mid) : Memory.wfFrom lo (m ++ n) = true := by
  induction m generalizing lo with
  | nil => exact Memory.wfFrom_mono hn hlo
  | cons e m ih =>
    rw [Memory.wfFrom_cons] at hm
    rw [List.cons_append, Memory.wfFrom_cons]
    exact ⟨hm.1, hm.2.1, ih hm.2.2 (h e (by simp)) (fun e' he' => h e' (by simp [he']))⟩

theorem Memory.ofBytes_lt (limit a : Nat) (bs : List Byte) : ∀ e ∈ Memory.ofBytes limit a bs, e.1 < limit := by
  induction bs generalizing a with
  | nil => simp [Memory.ofBytes]
  | cons b bs ih =>
    unfold Memory.ofBytes
    split
    · split
      · exact ih (a + 1)
      · intro e he
        rcases List.mem_cons.mp he with rfl | he
        · assumption
        · exact ih (a + 1) e he
    · simp

theorem Memory.holds_ram {c : Nat} (h : c < ramSize) : Memory.holds c = true := by simp [Memory.holds, h]

theorem Memory.holds_rom {a : Nat} (h : romBase ≤ a) (h' : a < addressSpace) : Memory.holds a = true := by
  simp [Memory.holds, h, h']

/-- Reading an appended memory below the second part's addresses, and at or above them. -/
theorem Memory.read_append (m n : Memory) (k : Nat) (h : ∀ e ∈ m, e.1 ≠ k) : (m ++ n).read k = n.read k := by
  induction m with
  | nil => rfl
  | cons e m ih =>
    obtain ⟨k', b⟩ := e
    rw [List.cons_append, Memory.read, if_neg (h (k', b) (by simp)), ih (fun e he => h e (by simp [he]))]

/-- Where the first part lists an address, or both read it as unlisted, the first part answers. -/
theorem Memory.read_append_left (m n : Memory) (k : Nat) (h : n.read k = Memory.unlisted k) :
    (m ++ n).read k = m.read k := by
  induction m with
  | nil => exact h
  | cons e m ih =>
    obtain ⟨k', b⟩ := e
    rw [List.cons_append, Memory.read, Memory.read, ih]

/-! ## Internal RAM as bytes -/

/-- RAM set to `bytes` reads them, and 0x00 past their end (20_memory.md R54). -/
theorem Memory.ram_withRam (m : Memory) (bytes : List Byte) (c : Nat) (h : c < ramSize) :
    (m.withRam bytes).ram c = bytes.getD c 0 := by
  have hn : m.rom.read c = Memory.unlisted c := by
    rw [Memory.read_rom, if_neg (by unfold ramSize romBase at *; omega)]
  unfold Memory.withRam Memory.ram
  rw [Memory.read_append_left _ _ _ hn, Memory.read_ofBytes]
  by_cases hl : c < bytes.length
  · rw [if_pos ⟨Nat.zero_le c, h, by simpa using hl⟩]
    simp [hl]
  · rw [if_neg (by simpa using fun _ => Nat.not_lt.mp hl)]
    simp [Memory.unlisted, h, hl]

/-- Program ROM stays (R56). -/
theorem Memory.read_withRam (m : Memory) (bytes : List Byte) (k : Nat) (h : romBase ≤ k) :
    (m.withRam bytes).read k = m.read k := by
  unfold Memory.withRam
  rw [Memory.read_append, Memory.read_rom, if_pos h]
  intro e he
  have := Memory.ofBytes_lt ramSize 0 bytes e he
  unfold ramSize romBase at *
  omega

theorem Memory.withRam_wf {m : Memory} (h : Memory.wf m = true) (bytes : List Byte) :
    Memory.wf (m.withRam bytes) = true := by
  refine Memory.append_wf (mid := romBase) ?_ (Memory.rom_wf h) (Nat.zero_le _) ?_
  · exact Memory.ofBytes_wf ramSize 0 bytes (fun k _ hk => Memory.holds_ram hk)
  · intro e he
    have := Memory.ofBytes_lt ramSize 0 bytes e he
    unfold ramSize romBase at *
    omega

@[simp] theorem Memory.ramBytes_length (m : Memory) (n : Nat) : (m.ramBytes n).length = n := by
  rw [Memory.ramBytes, List.length_map, List.length_range]

theorem Memory.ramBytes_getD (m : Memory) {n c : Nat} (h : c < n) : (m.ramBytes n).getD c 0 = m.ram c := by
  rw [Memory.ramBytes, List.getD_eq_getElem?_getD, List.getElem?_map, List.getElem?_range h]
  rfl

/-! ## Equal memories are equal data -/

/-- A byte below a canonical list's first address is unlisted. -/
theorem Memory.read_of_lt {lo k : Nat} {m : Memory} (h : Memory.wfFrom lo m = true) (hk : k < lo) :
    m.read k = Memory.unlisted k := by
  induction m generalizing lo with
  | nil => rfl
  | cons e m ih =>
    obtain ⟨a, b⟩ := e
    rw [Memory.wfFrom_cons] at h
    simp only at h
    rw [Memory.read, if_neg (by omega), ih h.2.2 (by omega)]

/-- A canonical memory lists no address that it may not hold. -/
theorem Memory.read_of_not_holds {lo k : Nat} {m : Memory} (h : Memory.wfFrom lo m = true)
    (hk : Memory.holds k = false) : m.read k = Memory.unlisted k := by
  induction m generalizing lo with
  | nil => rfl
  | cons e m ih =>
    obtain ⟨a, b⟩ := e
    rw [Memory.wfFrom_cons] at h
    have ha : a ≠ k := by
      rintro rfl
      simp [Memory.entryOk, hk] at h
    rw [Memory.read, if_neg ha, ih h.2.2]

/-- An entry of a canonical list is not what its address reads as unlisted. -/
theorem Memory.entryOk_ne {a : Nat} {b : Byte} (h : Memory.entryOk (a, b) = true) : Memory.unlisted a ≠ some b := by
  simp only [Memory.entryOk, Bool.and_eq_true, bne_iff_ne, ne_eq] at h
  exact h.2

/-- Two canonical memories that read alike everywhere are the same list. -/
theorem Memory.ext_of_wfFrom {lo : Nat} {m n : Memory} (hm : Memory.wfFrom lo m = true) (hn : Memory.wfFrom lo n = true)
    (h : ∀ k, m.read k = n.read k) : m = n := by
  have head {a lo' : Nat} {b : Byte} {m n : Memory} (hm : Memory.wfFrom lo' ((a, b) :: m) = true)
      (hn : Memory.wfFrom (a + 1) n = true) (h : Memory.read ((a, b) :: m) a = Memory.read n a) : False := by
    rw [Memory.wfFrom_cons] at hm
    rw [Memory.read, if_pos rfl, Memory.read_of_lt hn (Nat.lt_succ_self a)] at h
    exact Memory.entryOk_ne hm.2.1 h.symm
  induction m generalizing lo n with
  | nil =>
    cases n with
    | nil => rfl
    | cons e n => exact (head (n := []) hn rfl (h e.1).symm).elim
  | cons e m ih =>
    cases n with
    | nil => exact (head (n := []) hm rfl (h e.1)).elim
    | cons e' n =>
      obtain ⟨a, b⟩ := e
      obtain ⟨a', b'⟩ := e'
      have hm' := hm
      have hn' := hn
      rw [Memory.wfFrom_cons] at hm' hn'
      simp only at hm' hn'
      rcases Nat.lt_trichotomy a a' with hlt | rfl | hlt
      · exact (head hm (by rw [Memory.wfFrom_cons]; exact ⟨Nat.succ_le_of_lt hlt, hn'.2⟩) (h a)).elim
      · have hb := h a
        rw [Memory.read, if_pos rfl, Memory.read, if_pos rfl] at hb
        obtain rfl := Option.some.inj hb
        rw [ih hm'.2.2 hn'.2.2 fun k => ?_]
        by_cases hk : k < a + 1
        · rw [Memory.read_of_lt hm'.2.2 hk, Memory.read_of_lt hn'.2.2 hk]
        · have hk' := h k
          rwa [Memory.read, if_neg (by omega), Memory.read, if_neg (by omega)] at hk'
      · exact (head hn (by rw [Memory.wfFrom_cons]; exact ⟨Nat.succ_le_of_lt hlt, hm'.2⟩) (h a').symm).elim

/-- Equal memories are equal data. -/
theorem Memory.ext_of_wf {m n : Memory} (hm : Memory.wf m = true) (hn : Memory.wf n = true)
    (h : ∀ k, m.read k = n.read k) : m = n := Memory.ext_of_wfFrom (lo := 0) hm hn h

/-- A canonical memory holds nothing between internal RAM and program ROM. -/
theorem Memory.read_gap {m : Memory} {k : Nat} (hm : Memory.wf m = true) (h : ¬ k < ramSize) (h' : ¬ romBase ≤ k) :
    m.read k = none := by
  have hh : Memory.holds k = false := by simp [Memory.holds, h, h']
  rw [Memory.read_of_not_holds (lo := 0) hm hh, Memory.unlisted, if_neg h]

/-- Setting the RAM of a memory with the same program ROM to another's RAM gives that memory (60_exceptions.md R290). -/
theorem Memory.withRam_ramBytes {m n : Memory} (hm : Memory.wf m = true) (hn : Memory.wf n = true)
    (h : ∀ k, romBase ≤ k → n.read k = m.read k) : n.withRam (m.ramBytes ramSize) = m := by
  have hw := Memory.withRam_wf hn (m.ramBytes ramSize)
  refine Memory.ext_of_wf hw hm fun k => ?_
  by_cases hr : k < ramSize
  · rw [Memory.read_ram _ k hr, Memory.read_ram m k hr, Memory.ram_withRam n _ k hr, Memory.ramBytes_getD m hr]
  · by_cases hk : romBase ≤ k
    · rw [Memory.read_withRam n _ k hk, h k hk]
    · rw [Memory.read_gap hw hr hk, Memory.read_gap hm hr hk]

end Sys2Proof.Machine
end

