-- ==== Sys2Proof/Laws/State.lean ====
section
/-! SUPPORT. What each update of State makes of each field: one lemma per field per update, true by rfl, so that no
proof unfolds a record update. -/

namespace Sys2Proof.Machine


/-! ### setNZ -/

@[simp] theorem State.setNZ_a (s : State) (v : Byte) : (s.setNZ v).a = s.a := rfl
@[simp] theorem State.setNZ_x (s : State) (v : Byte) : (s.setNZ v).x = s.x := rfl
@[simp] theorem State.setNZ_y (s : State) (v : Byte) : (s.setNZ v).y = s.y := rfl
@[simp] theorem State.setNZ_sp (s : State) (v : Byte) : (s.setNZ v).sp = s.sp := rfl
@[simp] theorem State.setNZ_pc (s : State) (v : Byte) : (s.setNZ v).pc = s.pc := rfl
@[simp] theorem State.setNZ_p (s : State) (v : Byte) : (s.setNZ v).p = { s.p with z := v == 0, n := v.getLsbD 7 } := rfl
@[simp] theorem State.setNZ_cycles (s : State) (v : Byte) : (s.setNZ v).cycles = s.cycles := rfl
@[simp] theorem State.setNZ_nmiPending (s : State) (v : Byte) : (s.setNZ v).nmiPending = s.nmiPending := rfl
@[simp] theorem State.setNZ_irqLine (s : State) (v : Byte) : (s.setNZ v).irqLine = s.irqLine := rfl
@[simp] theorem State.setNZ_halted (s : State) (v : Byte) : (s.setNZ v).halted = s.halted := rfl
@[simp] theorem State.setNZ_dataBus (s : State) (v : Byte) : (s.setNZ v).dataBus = s.dataBus := rfl
@[simp] theorem State.setNZ_mem (s : State) (v : Byte) : (s.setNZ v).mem = s.mem := rfl
@[simp] theorem State.setNZ_romSwitched (s : State) (v : Byte) : (s.setNZ v).romSwitched = s.romSwitched := rfl
@[simp] theorem State.setNZ_devices (s : State) (v : Byte) : (s.setNZ v).devices = s.devices := rfl
@[simp] theorem State.setNZ_dmaWritten (s : State) (v : Byte) : (s.setNZ v).dmaWritten = s.dmaWritten := rfl
@[simp] theorem State.setNZ_trace (s : State) (v : Byte) : (s.setNZ v).trace = s.trace := rfl
@[simp] theorem State.setNZ_lastCost (s : State) (v : Byte) : (s.setNZ v).lastCost = s.lastCost := rfl
@[simp] theorem State.setNZ_inputs (s : State) (v : Byte) : (s.setNZ v).inputs = s.inputs := rfl
@[simp] theorem State.setNZ_cfg (s : State) (v : Byte) : (s.setNZ v).cfg = s.cfg := rfl

/-! ### setC -/

@[simp] theorem State.setC_a (s : State) (b : Bool) : (s.setC b).a = s.a := rfl
@[simp] theorem State.setC_x (s : State) (b : Bool) : (s.setC b).x = s.x := rfl
@[simp] theorem State.setC_y (s : State) (b : Bool) : (s.setC b).y = s.y := rfl
@[simp] theorem State.setC_sp (s : State) (b : Bool) : (s.setC b).sp = s.sp := rfl
@[simp] theorem State.setC_pc (s : State) (b : Bool) : (s.setC b).pc = s.pc := rfl
@[simp] theorem State.setC_p (s : State) (b : Bool) : (s.setC b).p = { s.p with c := b } := rfl
@[simp] theorem State.setC_cycles (s : State) (b : Bool) : (s.setC b).cycles = s.cycles := rfl
@[simp] theorem State.setC_nmiPending (s : State) (b : Bool) : (s.setC b).nmiPending = s.nmiPending := rfl
@[simp] theorem State.setC_irqLine (s : State) (b : Bool) : (s.setC b).irqLine = s.irqLine := rfl
@[simp] theorem State.setC_halted (s : State) (b : Bool) : (s.setC b).halted = s.halted := rfl
@[simp] theorem State.setC_dataBus (s : State) (b : Bool) : (s.setC b).dataBus = s.dataBus := rfl
@[simp] theorem State.setC_mem (s : State) (b : Bool) : (s.setC b).mem = s.mem := rfl
@[simp] theorem State.setC_romSwitched (s : State) (b : Bool) : (s.setC b).romSwitched = s.romSwitched := rfl
@[simp] theorem State.setC_devices (s : State) (b : Bool) : (s.setC b).devices = s.devices := rfl
@[simp] theorem State.setC_dmaWritten (s : State) (b : Bool) : (s.setC b).dmaWritten = s.dmaWritten := rfl
@[simp] theorem State.setC_trace (s : State) (b : Bool) : (s.setC b).trace = s.trace := rfl
@[simp] theorem State.setC_lastCost (s : State) (b : Bool) : (s.setC b).lastCost = s.lastCost := rfl
@[simp] theorem State.setC_inputs (s : State) (b : Bool) : (s.setC b).inputs = s.inputs := rfl
@[simp] theorem State.setC_cfg (s : State) (b : Bool) : (s.setC b).cfg = s.cfg := rfl

/-! ### setV -/

@[simp] theorem State.setV_a (s : State) (b : Bool) : (s.setV b).a = s.a := rfl
@[simp] theorem State.setV_x (s : State) (b : Bool) : (s.setV b).x = s.x := rfl
@[simp] theorem State.setV_y (s : State) (b : Bool) : (s.setV b).y = s.y := rfl
@[simp] theorem State.setV_sp (s : State) (b : Bool) : (s.setV b).sp = s.sp := rfl
@[simp] theorem State.setV_pc (s : State) (b : Bool) : (s.setV b).pc = s.pc := rfl
@[simp] theorem State.setV_p (s : State) (b : Bool) : (s.setV b).p = { s.p with v := b } := rfl
@[simp] theorem State.setV_cycles (s : State) (b : Bool) : (s.setV b).cycles = s.cycles := rfl
@[simp] theorem State.setV_nmiPending (s : State) (b : Bool) : (s.setV b).nmiPending = s.nmiPending := rfl
@[simp] theorem State.setV_irqLine (s : State) (b : Bool) : (s.setV b).irqLine = s.irqLine := rfl
@[simp] theorem State.setV_halted (s : State) (b : Bool) : (s.setV b).halted = s.halted := rfl
@[simp] theorem State.setV_dataBus (s : State) (b : Bool) : (s.setV b).dataBus = s.dataBus := rfl
@[simp] theorem State.setV_mem (s : State) (b : Bool) : (s.setV b).mem = s.mem := rfl
@[simp] theorem State.setV_romSwitched (s : State) (b : Bool) : (s.setV b).romSwitched = s.romSwitched := rfl
@[simp] theorem State.setV_devices (s : State) (b : Bool) : (s.setV b).devices = s.devices := rfl
@[simp] theorem State.setV_dmaWritten (s : State) (b : Bool) : (s.setV b).dmaWritten = s.dmaWritten := rfl
@[simp] theorem State.setV_trace (s : State) (b : Bool) : (s.setV b).trace = s.trace := rfl
@[simp] theorem State.setV_lastCost (s : State) (b : Bool) : (s.setV b).lastCost = s.lastCost := rfl
@[simp] theorem State.setV_inputs (s : State) (b : Bool) : (s.setV b).inputs = s.inputs := rfl
@[simp] theorem State.setV_cfg (s : State) (b : Bool) : (s.setV b).cfg = s.cfg := rfl

/-! ### setI -/

@[simp] theorem State.setI_a (s : State) (b : Bool) : (s.setI b).a = s.a := rfl
@[simp] theorem State.setI_x (s : State) (b : Bool) : (s.setI b).x = s.x := rfl
@[simp] theorem State.setI_y (s : State) (b : Bool) : (s.setI b).y = s.y := rfl
@[simp] theorem State.setI_sp (s : State) (b : Bool) : (s.setI b).sp = s.sp := rfl
@[simp] theorem State.setI_pc (s : State) (b : Bool) : (s.setI b).pc = s.pc := rfl
@[simp] theorem State.setI_p (s : State) (b : Bool) : (s.setI b).p = { s.p with i := b } := rfl
@[simp] theorem State.setI_cycles (s : State) (b : Bool) : (s.setI b).cycles = s.cycles := rfl
@[simp] theorem State.setI_nmiPending (s : State) (b : Bool) : (s.setI b).nmiPending = s.nmiPending := rfl
@[simp] theorem State.setI_irqLine (s : State) (b : Bool) : (s.setI b).irqLine = s.irqLine := rfl
@[simp] theorem State.setI_halted (s : State) (b : Bool) : (s.setI b).halted = s.halted := rfl
@[simp] theorem State.setI_dataBus (s : State) (b : Bool) : (s.setI b).dataBus = s.dataBus := rfl
@[simp] theorem State.setI_mem (s : State) (b : Bool) : (s.setI b).mem = s.mem := rfl
@[simp] theorem State.setI_romSwitched (s : State) (b : Bool) : (s.setI b).romSwitched = s.romSwitched := rfl
@[simp] theorem State.setI_devices (s : State) (b : Bool) : (s.setI b).devices = s.devices := rfl
@[simp] theorem State.setI_dmaWritten (s : State) (b : Bool) : (s.setI b).dmaWritten = s.dmaWritten := rfl
@[simp] theorem State.setI_trace (s : State) (b : Bool) : (s.setI b).trace = s.trace := rfl
@[simp] theorem State.setI_lastCost (s : State) (b : Bool) : (s.setI b).lastCost = s.lastCost := rfl
@[simp] theorem State.setI_inputs (s : State) (b : Bool) : (s.setI b).inputs = s.inputs := rfl
@[simp] theorem State.setI_cfg (s : State) (b : Bool) : (s.setI b).cfg = s.cfg := rfl

/-! ### setD -/

@[simp] theorem State.setD_a (s : State) (b : Bool) : (s.setD b).a = s.a := rfl
@[simp] theorem State.setD_x (s : State) (b : Bool) : (s.setD b).x = s.x := rfl
@[simp] theorem State.setD_y (s : State) (b : Bool) : (s.setD b).y = s.y := rfl
@[simp] theorem State.setD_sp (s : State) (b : Bool) : (s.setD b).sp = s.sp := rfl
@[simp] theorem State.setD_pc (s : State) (b : Bool) : (s.setD b).pc = s.pc := rfl
@[simp] theorem State.setD_p (s : State) (b : Bool) : (s.setD b).p = { s.p with d := b } := rfl
@[simp] theorem State.setD_cycles (s : State) (b : Bool) : (s.setD b).cycles = s.cycles := rfl
@[simp] theorem State.setD_nmiPending (s : State) (b : Bool) : (s.setD b).nmiPending = s.nmiPending := rfl
@[simp] theorem State.setD_irqLine (s : State) (b : Bool) : (s.setD b).irqLine = s.irqLine := rfl
@[simp] theorem State.setD_halted (s : State) (b : Bool) : (s.setD b).halted = s.halted := rfl
@[simp] theorem State.setD_dataBus (s : State) (b : Bool) : (s.setD b).dataBus = s.dataBus := rfl
@[simp] theorem State.setD_mem (s : State) (b : Bool) : (s.setD b).mem = s.mem := rfl
@[simp] theorem State.setD_romSwitched (s : State) (b : Bool) : (s.setD b).romSwitched = s.romSwitched := rfl
@[simp] theorem State.setD_devices (s : State) (b : Bool) : (s.setD b).devices = s.devices := rfl
@[simp] theorem State.setD_dmaWritten (s : State) (b : Bool) : (s.setD b).dmaWritten = s.dmaWritten := rfl
@[simp] theorem State.setD_trace (s : State) (b : Bool) : (s.setD b).trace = s.trace := rfl
@[simp] theorem State.setD_lastCost (s : State) (b : Bool) : (s.setD b).lastCost = s.lastCost := rfl
@[simp] theorem State.setD_inputs (s : State) (b : Bool) : (s.setD b).inputs = s.inputs := rfl
@[simp] theorem State.setD_cfg (s : State) (b : Bool) : (s.setD b).cfg = s.cfg := rfl

/-! ### addToA -/

@[simp] theorem State.addToA_a (s : State) (m : Byte) : (s.addToA m).a = addResult s.a m s.p.c := rfl
@[simp] theorem State.addToA_x (s : State) (m : Byte) : (s.addToA m).x = s.x := rfl
@[simp] theorem State.addToA_y (s : State) (m : Byte) : (s.addToA m).y = s.y := rfl
@[simp] theorem State.addToA_sp (s : State) (m : Byte) : (s.addToA m).sp = s.sp := rfl
@[simp] theorem State.addToA_pc (s : State) (m : Byte) : (s.addToA m).pc = s.pc := rfl
@[simp] theorem State.addToA_p (s : State) (m : Byte) : (s.addToA m).p = 
    { s.p with
      c := addCarry s.a m s.p.c, v := addOverflow s.a m s.p.c, z := addResult s.a m s.p.c == 0
      n := (addResult s.a m s.p.c).getLsbD 7 } := rfl
@[simp] theorem State.addToA_cycles (s : State) (m : Byte) : (s.addToA m).cycles = s.cycles := rfl
@[simp] theorem State.addToA_nmiPending (s : State) (m : Byte) : (s.addToA m).nmiPending = s.nmiPending := rfl
@[simp] theorem State.addToA_irqLine (s : State) (m : Byte) : (s.addToA m).irqLine = s.irqLine := rfl
@[simp] theorem State.addToA_halted (s : State) (m : Byte) : (s.addToA m).halted = s.halted := rfl
@[simp] theorem State.addToA_dataBus (s : State) (m : Byte) : (s.addToA m).dataBus = s.dataBus := rfl
@[simp] theorem State.addToA_mem (s : State) (m : Byte) : (s.addToA m).mem = s.mem := rfl
@[simp] theorem State.addToA_romSwitched (s : State) (m : Byte) : (s.addToA m).romSwitched = s.romSwitched := rfl
@[simp] theorem State.addToA_devices (s : State) (m : Byte) : (s.addToA m).devices = s.devices := rfl
@[simp] theorem State.addToA_dmaWritten (s : State) (m : Byte) : (s.addToA m).dmaWritten = s.dmaWritten := rfl
@[simp] theorem State.addToA_trace (s : State) (m : Byte) : (s.addToA m).trace = s.trace := rfl
@[simp] theorem State.addToA_lastCost (s : State) (m : Byte) : (s.addToA m).lastCost = s.lastCost := rfl
@[simp] theorem State.addToA_inputs (s : State) (m : Byte) : (s.addToA m).inputs = s.inputs := rfl
@[simp] theorem State.addToA_cfg (s : State) (m : Byte) : (s.addToA m).cfg = s.cfg := rfl

/-! ### compare -/

@[simp] theorem State.compare_a (s : State) (r m : Byte) : (s.compare r m).a = s.a := rfl
@[simp] theorem State.compare_x (s : State) (r m : Byte) : (s.compare r m).x = s.x := rfl
@[simp] theorem State.compare_y (s : State) (r m : Byte) : (s.compare r m).y = s.y := rfl
@[simp] theorem State.compare_sp (s : State) (r m : Byte) : (s.compare r m).sp = s.sp := rfl
@[simp] theorem State.compare_pc (s : State) (r m : Byte) : (s.compare r m).pc = s.pc := rfl
@[simp] theorem State.compare_p (s : State) (r m : Byte) : (s.compare r m).p = 
    { s.p with c := decide (m.toNat ≤ r.toNat), z := r == m, n := (r - m).getLsbD 7 } := rfl
@[simp] theorem State.compare_cycles (s : State) (r m : Byte) : (s.compare r m).cycles = s.cycles := rfl
@[simp] theorem State.compare_nmiPending (s : State) (r m : Byte) : (s.compare r m).nmiPending = s.nmiPending := rfl
@[simp] theorem State.compare_irqLine (s : State) (r m : Byte) : (s.compare r m).irqLine = s.irqLine := rfl
@[simp] theorem State.compare_halted (s : State) (r m : Byte) : (s.compare r m).halted = s.halted := rfl
@[simp] theorem State.compare_dataBus (s : State) (r m : Byte) : (s.compare r m).dataBus = s.dataBus := rfl
@[simp] theorem State.compare_mem (s : State) (r m : Byte) : (s.compare r m).mem = s.mem := rfl
@[simp] theorem State.compare_romSwitched (s : State) (r m : Byte) : (s.compare r m).romSwitched = s.romSwitched := rfl
@[simp] theorem State.compare_devices (s : State) (r m : Byte) : (s.compare r m).devices = s.devices := rfl
@[simp] theorem State.compare_dmaWritten (s : State) (r m : Byte) : (s.compare r m).dmaWritten = s.dmaWritten := rfl
@[simp] theorem State.compare_trace (s : State) (r m : Byte) : (s.compare r m).trace = s.trace := rfl
@[simp] theorem State.compare_lastCost (s : State) (r m : Byte) : (s.compare r m).lastCost = s.lastCost := rfl
@[simp] theorem State.compare_inputs (s : State) (r m : Byte) : (s.compare r m).inputs = s.inputs := rfl
@[simp] theorem State.compare_cfg (s : State) (r m : Byte) : (s.compare r m).cfg = s.cfg := rfl

/-! ### busRead -/

@[simp] theorem State.busRead_a (s : State) (a : Addr) : (s.busRead a).a = s.a := rfl
@[simp] theorem State.busRead_x (s : State) (a : Addr) : (s.busRead a).x = s.x := rfl
@[simp] theorem State.busRead_y (s : State) (a : Addr) : (s.busRead a).y = s.y := rfl
@[simp] theorem State.busRead_sp (s : State) (a : Addr) : (s.busRead a).sp = s.sp := rfl
@[simp] theorem State.busRead_pc (s : State) (a : Addr) : (s.busRead a).pc = s.pc := rfl
@[simp] theorem State.busRead_p (s : State) (a : Addr) : (s.busRead a).p = s.p := rfl
@[simp] theorem State.busRead_cycles (s : State) (a : Addr) : (s.busRead a).cycles = s.cycles := rfl
@[simp] theorem State.busRead_nmiPending (s : State) (a : Addr) : (s.busRead a).nmiPending = s.nmiPending := rfl
@[simp] theorem State.busRead_irqLine (s : State) (a : Addr) : (s.busRead a).irqLine = s.irqLine := rfl
@[simp] theorem State.busRead_halted (s : State) (a : Addr) : (s.busRead a).halted = s.halted := rfl
@[simp] theorem State.busRead_dataBus (s : State) (a : Addr) : (s.busRead a).dataBus = s.busByte a := rfl
@[simp] theorem State.busRead_mem (s : State) (a : Addr) : (s.busRead a).mem = s.mem := rfl
@[simp] theorem State.busRead_romSwitched (s : State) (a : Addr) : (s.busRead a).romSwitched = s.romSwitched := rfl
@[simp] theorem State.busRead_devices (s : State) (a : Addr) : (s.busRead a).devices = 
    (if isDevice a then Config.busAfterRead s.devices (deviceAddr a) else s.devices) := rfl
@[simp] theorem State.busRead_dmaWritten (s : State) (a : Addr) : (s.busRead a).dmaWritten = s.dmaWritten := rfl
@[simp] theorem State.busRead_trace (s : State) (a : Addr) : (s.busRead a).trace = ⟨.read, a, s.busByte a⟩ :: s.trace := rfl
@[simp] theorem State.busRead_lastCost (s : State) (a : Addr) : (s.busRead a).lastCost = s.lastCost := rfl
@[simp] theorem State.busRead_inputs (s : State) (a : Addr) : (s.busRead a).inputs = s.inputs := rfl
@[simp] theorem State.busRead_cfg (s : State) (a : Addr) : (s.busRead a).cfg = s.cfg := rfl

/-! ### busWrite -/

@[simp] theorem State.busWrite_a (s : State) (a : Addr) (v : Byte) : (s.busWrite a v).a = s.a := rfl
@[simp] theorem State.busWrite_x (s : State) (a : Addr) (v : Byte) : (s.busWrite a v).x = s.x := rfl
@[simp] theorem State.busWrite_y (s : State) (a : Addr) (v : Byte) : (s.busWrite a v).y = s.y := rfl
@[simp] theorem State.busWrite_sp (s : State) (a : Addr) (v : Byte) : (s.busWrite a v).sp = s.sp := rfl
@[simp] theorem State.busWrite_pc (s : State) (a : Addr) (v : Byte) : (s.busWrite a v).pc = s.pc := rfl
@[simp] theorem State.busWrite_p (s : State) (a : Addr) (v : Byte) : (s.busWrite a v).p = s.p := rfl
@[simp] theorem State.busWrite_cycles (s : State) (a : Addr) (v : Byte) : (s.busWrite a v).cycles = s.cycles := rfl
@[simp] theorem State.busWrite_nmiPending (s : State) (a : Addr) (v : Byte) : (s.busWrite a v).nmiPending = s.nmiPending := rfl
@[simp] theorem State.busWrite_irqLine (s : State) (a : Addr) (v : Byte) : (s.busWrite a v).irqLine = s.irqLine := rfl
@[simp] theorem State.busWrite_halted (s : State) (a : Addr) (v : Byte) : (s.busWrite a v).halted = s.halted := rfl
@[simp] theorem State.busWrite_dataBus (s : State) (a : Addr) (v : Byte) : (s.busWrite a v).dataBus = v := rfl
@[simp] theorem State.busWrite_mem (s : State) (a : Addr) (v : Byte) : (s.busWrite a v).mem = 
    (if isDevice a then s.mem else s.mem.write (ramCell a) v) := rfl
@[simp] theorem State.busWrite_romSwitched (s : State) (a : Addr) (v : Byte) : (s.busWrite a v).romSwitched = 
    (s.romSwitched || decide (0x4020 ≤ a.toNat)) := rfl
@[simp] theorem State.busWrite_devices (s : State) (a : Addr) (v : Byte) : (s.busWrite a v).devices = 
    (if isDevice a then Config.busAfterWrite s.devices (deviceAddr a) v else s.devices) := rfl
@[simp] theorem State.busWrite_dmaWritten (s : State) (a : Addr) (v : Byte) : (s.busWrite a v).dmaWritten = 
    (s.dmaWritten || a == 0x4014) := rfl
@[simp] theorem State.busWrite_trace (s : State) (a : Addr) (v : Byte) : (s.busWrite a v).trace = ⟨.write, a, v⟩ :: s.trace := rfl
@[simp] theorem State.busWrite_lastCost (s : State) (a : Addr) (v : Byte) : (s.busWrite a v).lastCost = s.lastCost := rfl
@[simp] theorem State.busWrite_inputs (s : State) (a : Addr) (v : Byte) : (s.busWrite a v).inputs = s.inputs := rfl
@[simp] theorem State.busWrite_cfg (s : State) (a : Addr) (v : Byte) : (s.busWrite a v).cfg = s.cfg := rfl

/-! ### fetch8 -/

@[simp] theorem State.fetch8_a (s : State) : (s.fetch8).a = s.a := rfl
@[simp] theorem State.fetch8_x (s : State) : (s.fetch8).x = s.x := rfl
@[simp] theorem State.fetch8_y (s : State) : (s.fetch8).y = s.y := rfl
@[simp] theorem State.fetch8_sp (s : State) : (s.fetch8).sp = s.sp := rfl
@[simp] theorem State.fetch8_pc (s : State) : (s.fetch8).pc = s.pc + 1 := rfl
@[simp] theorem State.fetch8_p (s : State) : (s.fetch8).p = s.p := rfl
@[simp] theorem State.fetch8_cycles (s : State) : (s.fetch8).cycles = s.cycles := rfl
@[simp] theorem State.fetch8_nmiPending (s : State) : (s.fetch8).nmiPending = s.nmiPending := rfl
@[simp] theorem State.fetch8_irqLine (s : State) : (s.fetch8).irqLine = s.irqLine := rfl
@[simp] theorem State.fetch8_halted (s : State) : (s.fetch8).halted = s.halted := rfl
@[simp] theorem State.fetch8_dataBus (s : State) : (s.fetch8).dataBus = s.fetched := rfl
@[simp] theorem State.fetch8_mem (s : State) : (s.fetch8).mem = s.mem := rfl
@[simp] theorem State.fetch8_romSwitched (s : State) : (s.fetch8).romSwitched = s.romSwitched := rfl
@[simp] theorem State.fetch8_devices (s : State) : (s.fetch8).devices = 
    (if isDevice s.pc then Config.busAfterRead s.devices (deviceAddr s.pc) else s.devices) := rfl
@[simp] theorem State.fetch8_dmaWritten (s : State) : (s.fetch8).dmaWritten = s.dmaWritten := rfl
@[simp] theorem State.fetch8_trace (s : State) : (s.fetch8).trace = ⟨.read, s.pc, s.fetched⟩ :: s.trace := rfl
@[simp] theorem State.fetch8_lastCost (s : State) : (s.fetch8).lastCost = s.lastCost := rfl
@[simp] theorem State.fetch8_inputs (s : State) : (s.fetch8).inputs = s.inputs := rfl
@[simp] theorem State.fetch8_cfg (s : State) : (s.fetch8).cfg = s.cfg := rfl

/-! ### push -/

@[simp] theorem State.push_a (s : State) (v : Byte) : (s.push v).a = s.a := rfl
@[simp] theorem State.push_x (s : State) (v : Byte) : (s.push v).x = s.x := rfl
@[simp] theorem State.push_y (s : State) (v : Byte) : (s.push v).y = s.y := rfl
@[simp] theorem State.push_sp (s : State) (v : Byte) : (s.push v).sp = s.sp - 1 := rfl
@[simp] theorem State.push_pc (s : State) (v : Byte) : (s.push v).pc = s.pc := rfl
@[simp] theorem State.push_p (s : State) (v : Byte) : (s.push v).p = s.p := rfl
@[simp] theorem State.push_cycles (s : State) (v : Byte) : (s.push v).cycles = s.cycles := rfl
@[simp] theorem State.push_nmiPending (s : State) (v : Byte) : (s.push v).nmiPending = s.nmiPending := rfl
@[simp] theorem State.push_irqLine (s : State) (v : Byte) : (s.push v).irqLine = s.irqLine := rfl
@[simp] theorem State.push_halted (s : State) (v : Byte) : (s.push v).halted = s.halted := rfl
@[simp] theorem State.push_dataBus (s : State) (v : Byte) : (s.push v).dataBus = v := rfl
@[simp] theorem State.push_mem (s : State) (v : Byte) : (s.push v).mem = (s.busWrite (stackSlot s.sp) v).mem := rfl
@[simp] theorem State.push_romSwitched (s : State) (v : Byte) : (s.push v).romSwitched = (s.busWrite (stackSlot s.sp) v).romSwitched := rfl
@[simp] theorem State.push_devices (s : State) (v : Byte) : (s.push v).devices = (s.busWrite (stackSlot s.sp) v).devices := rfl
@[simp] theorem State.push_dmaWritten (s : State) (v : Byte) : (s.push v).dmaWritten = (s.busWrite (stackSlot s.sp) v).dmaWritten := rfl
@[simp] theorem State.push_trace (s : State) (v : Byte) : (s.push v).trace = ⟨.write, stackSlot s.sp, v⟩ :: s.trace := rfl
@[simp] theorem State.push_lastCost (s : State) (v : Byte) : (s.push v).lastCost = s.lastCost := rfl
@[simp] theorem State.push_inputs (s : State) (v : Byte) : (s.push v).inputs = s.inputs := rfl
@[simp] theorem State.push_cfg (s : State) (v : Byte) : (s.push v).cfg = s.cfg := rfl

/-! ### pull -/

@[simp] theorem State.pull_a (s : State) : (s.pull).a = s.a := rfl
@[simp] theorem State.pull_x (s : State) : (s.pull).x = s.x := rfl
@[simp] theorem State.pull_y (s : State) : (s.pull).y = s.y := rfl
@[simp] theorem State.pull_sp (s : State) : (s.pull).sp = s.sp + 1 := rfl
@[simp] theorem State.pull_pc (s : State) : (s.pull).pc = s.pc := rfl
@[simp] theorem State.pull_p (s : State) : (s.pull).p = s.p := rfl
@[simp] theorem State.pull_cycles (s : State) : (s.pull).cycles = s.cycles := rfl
@[simp] theorem State.pull_nmiPending (s : State) : (s.pull).nmiPending = s.nmiPending := rfl
@[simp] theorem State.pull_irqLine (s : State) : (s.pull).irqLine = s.irqLine := rfl
@[simp] theorem State.pull_halted (s : State) : (s.pull).halted = s.halted := rfl
@[simp] theorem State.pull_dataBus (s : State) : (s.pull).dataBus = s.pulled := rfl
@[simp] theorem State.pull_mem (s : State) : (s.pull).mem = s.mem := rfl
@[simp] theorem State.pull_romSwitched (s : State) : (s.pull).romSwitched = s.romSwitched := rfl
@[simp] theorem State.pull_devices (s : State) : (s.pull).devices = (s.busRead (stackSlot (s.sp + 1))).devices := rfl
@[simp] theorem State.pull_dmaWritten (s : State) : (s.pull).dmaWritten = s.dmaWritten := rfl
@[simp] theorem State.pull_trace (s : State) : (s.pull).trace = ⟨.read, stackSlot (s.sp + 1), s.pulled⟩ :: s.trace := rfl
@[simp] theorem State.pull_lastCost (s : State) : (s.pull).lastCost = s.lastCost := rfl
@[simp] theorem State.pull_inputs (s : State) : (s.pull).inputs = s.inputs := rfl
@[simp] theorem State.pull_cfg (s : State) : (s.pull).cfg = s.cfg := rfl

/-! ### finish -/

@[simp] theorem State.finish_a (s : State) (c : Nat) : (s.finish c).a = s.a := rfl
@[simp] theorem State.finish_x (s : State) (c : Nat) : (s.finish c).x = s.x := rfl
@[simp] theorem State.finish_y (s : State) (c : Nat) : (s.finish c).y = s.y := rfl
@[simp] theorem State.finish_sp (s : State) (c : Nat) : (s.finish c).sp = s.sp := rfl
@[simp] theorem State.finish_pc (s : State) (c : Nat) : (s.finish c).pc = s.pc := rfl
@[simp] theorem State.finish_p (s : State) (c : Nat) : (s.finish c).p = s.p := rfl
@[simp] theorem State.finish_cycles (s : State) (c : Nat) : (s.finish c).cycles = (s.cycles + s.stepCost c) % 2 ^ s.cfg.cycleWidth := rfl
@[simp] theorem State.finish_nmiPending (s : State) (c : Nat) : (s.finish c).nmiPending = s.nmiPending := rfl
@[simp] theorem State.finish_irqLine (s : State) (c : Nat) : (s.finish c).irqLine = s.irqLine := rfl
@[simp] theorem State.finish_halted (s : State) (c : Nat) : (s.finish c).halted = s.halted := rfl
@[simp] theorem State.finish_dataBus (s : State) (c : Nat) : (s.finish c).dataBus = s.dataBus := rfl
@[simp] theorem State.finish_mem (s : State) (c : Nat) : (s.finish c).mem = s.mem := rfl
@[simp] theorem State.finish_romSwitched (s : State) (c : Nat) : (s.finish c).romSwitched = s.romSwitched := rfl
@[simp] theorem State.finish_devices (s : State) (c : Nat) : (s.finish c).devices = Config.busAfterCycles s.devices (s.stepCost c) := rfl
@[simp] theorem State.finish_dmaWritten (s : State) (c : Nat) : (s.finish c).dmaWritten = false := rfl
@[simp] theorem State.finish_trace (s : State) (c : Nat) : (s.finish c).trace = s.trace := rfl
@[simp] theorem State.finish_lastCost (s : State) (c : Nat) : (s.finish c).lastCost = some (s.stepCost c) := rfl
@[simp] theorem State.finish_inputs (s : State) (c : Nat) : (s.finish c).inputs = s.inputs := rfl
@[simp] theorem State.finish_cfg (s : State) (c : Nat) : (s.finish c).cfg = s.cfg := rfl

/-! ### jumpThrough -/

@[simp] theorem State.jumpThrough_a (s : State) (vec : Addr) : (s.jumpThrough vec).a = s.a := rfl
@[simp] theorem State.jumpThrough_x (s : State) (vec : Addr) : (s.jumpThrough vec).x = s.x := rfl
@[simp] theorem State.jumpThrough_y (s : State) (vec : Addr) : (s.jumpThrough vec).y = s.y := rfl
@[simp] theorem State.jumpThrough_sp (s : State) (vec : Addr) : (s.jumpThrough vec).sp = s.sp := rfl
@[simp] theorem State.jumpThrough_pc (s : State) (vec : Addr) : (s.jumpThrough vec).pc = s.busWord vec (vec + 1) := rfl
@[simp] theorem State.jumpThrough_p (s : State) (vec : Addr) : (s.jumpThrough vec).p = s.p := rfl
@[simp] theorem State.jumpThrough_cycles (s : State) (vec : Addr) : (s.jumpThrough vec).cycles = s.cycles := rfl
@[simp] theorem State.jumpThrough_nmiPending (s : State) (vec : Addr) : (s.jumpThrough vec).nmiPending = s.nmiPending := rfl
@[simp] theorem State.jumpThrough_irqLine (s : State) (vec : Addr) : (s.jumpThrough vec).irqLine = s.irqLine := rfl
@[simp] theorem State.jumpThrough_halted (s : State) (vec : Addr) : (s.jumpThrough vec).halted = s.halted := rfl
@[simp] theorem State.jumpThrough_dataBus (s : State) (vec : Addr) : (s.jumpThrough vec).dataBus = (s.busRead vec).busByte (vec + 1) := rfl
@[simp] theorem State.jumpThrough_mem (s : State) (vec : Addr) : (s.jumpThrough vec).mem = s.mem := rfl
@[simp] theorem State.jumpThrough_romSwitched (s : State) (vec : Addr) : (s.jumpThrough vec).romSwitched = s.romSwitched := rfl
@[simp] theorem State.jumpThrough_devices (s : State) (vec : Addr) : (s.jumpThrough vec).devices = (s.busRead2 vec (vec + 1)).devices := rfl
@[simp] theorem State.jumpThrough_dmaWritten (s : State) (vec : Addr) : (s.jumpThrough vec).dmaWritten = s.dmaWritten := rfl
@[simp] theorem State.jumpThrough_trace (s : State) (vec : Addr) : (s.jumpThrough vec).trace = 
    ⟨.read, vec + 1, (s.busRead vec).busByte (vec + 1)⟩ :: ⟨.read, vec, s.busByte vec⟩ :: s.trace := rfl
@[simp] theorem State.jumpThrough_lastCost (s : State) (vec : Addr) : (s.jumpThrough vec).lastCost = s.lastCost := rfl
@[simp] theorem State.jumpThrough_inputs (s : State) (vec : Addr) : (s.jumpThrough vec).inputs = s.inputs := rfl
@[simp] theorem State.jumpThrough_cfg (s : State) (vec : Addr) : (s.jumpThrough vec).cfg = s.cfg := rfl

/-! ### requestNmi -/

@[simp] theorem State.requestNmi_a (s : State) : (s.requestNmi).a = s.a := rfl
@[simp] theorem State.requestNmi_x (s : State) : (s.requestNmi).x = s.x := rfl
@[simp] theorem State.requestNmi_y (s : State) : (s.requestNmi).y = s.y := rfl
@[simp] theorem State.requestNmi_sp (s : State) : (s.requestNmi).sp = s.sp := rfl
@[simp] theorem State.requestNmi_pc (s : State) : (s.requestNmi).pc = s.pc := rfl
@[simp] theorem State.requestNmi_p (s : State) : (s.requestNmi).p = s.p := rfl
@[simp] theorem State.requestNmi_cycles (s : State) : (s.requestNmi).cycles = s.cycles := rfl
@[simp] theorem State.requestNmi_nmiPending (s : State) : (s.requestNmi).nmiPending = true := rfl
@[simp] theorem State.requestNmi_irqLine (s : State) : (s.requestNmi).irqLine = s.irqLine := rfl
@[simp] theorem State.requestNmi_halted (s : State) : (s.requestNmi).halted = s.halted := rfl
@[simp] theorem State.requestNmi_dataBus (s : State) : (s.requestNmi).dataBus = s.dataBus := rfl
@[simp] theorem State.requestNmi_mem (s : State) : (s.requestNmi).mem = s.mem := rfl
@[simp] theorem State.requestNmi_romSwitched (s : State) : (s.requestNmi).romSwitched = s.romSwitched := rfl
@[simp] theorem State.requestNmi_devices (s : State) : (s.requestNmi).devices = s.devices := rfl
@[simp] theorem State.requestNmi_dmaWritten (s : State) : (s.requestNmi).dmaWritten = s.dmaWritten := rfl
@[simp] theorem State.requestNmi_trace (s : State) : (s.requestNmi).trace = s.trace := rfl
@[simp] theorem State.requestNmi_lastCost (s : State) : (s.requestNmi).lastCost = s.lastCost := rfl
@[simp] theorem State.requestNmi_inputs (s : State) : (s.requestNmi).inputs = s.inputs := rfl
@[simp] theorem State.requestNmi_cfg (s : State) : (s.requestNmi).cfg = s.cfg := rfl

/-! ### setIrqLine -/

@[simp] theorem State.setIrqLine_a (s : State) (level : Bool) : (s.setIrqLine level).a = s.a := rfl
@[simp] theorem State.setIrqLine_x (s : State) (level : Bool) : (s.setIrqLine level).x = s.x := rfl
@[simp] theorem State.setIrqLine_y (s : State) (level : Bool) : (s.setIrqLine level).y = s.y := rfl
@[simp] theorem State.setIrqLine_sp (s : State) (level : Bool) : (s.setIrqLine level).sp = s.sp := rfl
@[simp] theorem State.setIrqLine_pc (s : State) (level : Bool) : (s.setIrqLine level).pc = s.pc := rfl
@[simp] theorem State.setIrqLine_p (s : State) (level : Bool) : (s.setIrqLine level).p = s.p := rfl
@[simp] theorem State.setIrqLine_cycles (s : State) (level : Bool) : (s.setIrqLine level).cycles = s.cycles := rfl
@[simp] theorem State.setIrqLine_nmiPending (s : State) (level : Bool) : (s.setIrqLine level).nmiPending = s.nmiPending := rfl
@[simp] theorem State.setIrqLine_irqLine (s : State) (level : Bool) : (s.setIrqLine level).irqLine = level := rfl
@[simp] theorem State.setIrqLine_halted (s : State) (level : Bool) : (s.setIrqLine level).halted = s.halted := rfl
@[simp] theorem State.setIrqLine_dataBus (s : State) (level : Bool) : (s.setIrqLine level).dataBus = s.dataBus := rfl
@[simp] theorem State.setIrqLine_mem (s : State) (level : Bool) : (s.setIrqLine level).mem = s.mem := rfl
@[simp] theorem State.setIrqLine_romSwitched (s : State) (level : Bool) : (s.setIrqLine level).romSwitched = s.romSwitched := rfl
@[simp] theorem State.setIrqLine_devices (s : State) (level : Bool) : (s.setIrqLine level).devices = s.devices := rfl
@[simp] theorem State.setIrqLine_dmaWritten (s : State) (level : Bool) : (s.setIrqLine level).dmaWritten = s.dmaWritten := rfl
@[simp] theorem State.setIrqLine_trace (s : State) (level : Bool) : (s.setIrqLine level).trace = s.trace := rfl
@[simp] theorem State.setIrqLine_lastCost (s : State) (level : Bool) : (s.setIrqLine level).lastCost = s.lastCost := rfl
@[simp] theorem State.setIrqLine_inputs (s : State) (level : Bool) : (s.setIrqLine level).inputs = s.inputs := rfl
@[simp] theorem State.setIrqLine_cfg (s : State) (level : Bool) : (s.setIrqLine level).cfg = s.cfg := rfl

/-! ### load -/

@[simp] theorem State.load_a (s : State) (k : Snapshot) : (s.load k).a = k.a := rfl
@[simp] theorem State.load_x (s : State) (k : Snapshot) : (s.load k).x = k.x := rfl
@[simp] theorem State.load_y (s : State) (k : Snapshot) : (s.load k).y = k.y := rfl
@[simp] theorem State.load_sp (s : State) (k : Snapshot) : (s.load k).sp = k.sp := rfl
@[simp] theorem State.load_pc (s : State) (k : Snapshot) : (s.load k).pc = k.pc := rfl
@[simp] theorem State.load_p (s : State) (k : Snapshot) : (s.load k).p = k.p := rfl
@[simp] theorem State.load_cycles (s : State) (k : Snapshot) : (s.load k).cycles = k.cycles % 2 ^ s.cfg.cycleWidth := rfl
@[simp] theorem State.load_nmiPending (s : State) (k : Snapshot) : (s.load k).nmiPending = k.nmiPending := rfl
@[simp] theorem State.load_irqLine (s : State) (k : Snapshot) : (s.load k).irqLine = s.irqLine := rfl
@[simp] theorem State.load_halted (s : State) (k : Snapshot) : (s.load k).halted = k.halted := rfl
@[simp] theorem State.load_dataBus (s : State) (k : Snapshot) : (s.load k).dataBus = k.dataBus := rfl
@[simp] theorem State.load_mem (s : State) (k : Snapshot) : (s.load k).mem = s.mem.withRam k.ram := rfl
@[simp] theorem State.load_romSwitched (s : State) (k : Snapshot) : (s.load k).romSwitched = k.romSwitched := rfl
@[simp] theorem State.load_devices (s : State) (k : Snapshot) : (s.load k).devices = k.devices := rfl
@[simp] theorem State.load_dmaWritten (s : State) (k : Snapshot) : (s.load k).dmaWritten = false := rfl
@[simp] theorem State.load_trace (s : State) (k : Snapshot) : (s.load k).trace = s.trace := rfl
@[simp] theorem State.load_lastCost (s : State) (k : Snapshot) : (s.load k).lastCost = none := rfl
@[simp] theorem State.load_inputs (s : State) (k : Snapshot) : (s.load k).inputs = s.inputs := rfl
@[simp] theorem State.load_cfg (s : State) (k : Snapshot) : (s.load k).cfg = s.cfg := rfl

/-! ### save -/

@[simp] theorem State.save_a (s : State) : s.save.a = s.a := rfl
@[simp] theorem State.save_x (s : State) : s.save.x = s.x := rfl
@[simp] theorem State.save_y (s : State) : s.save.y = s.y := rfl
@[simp] theorem State.save_sp (s : State) : s.save.sp = s.sp := rfl
@[simp] theorem State.save_pc (s : State) : s.save.pc = s.pc := rfl
@[simp] theorem State.save_p (s : State) : s.save.p = s.p := rfl
@[simp] theorem State.save_cycles (s : State) : s.save.cycles = s.cycles := rfl
@[simp] theorem State.save_nmiPending (s : State) : s.save.nmiPending = s.nmiPending := rfl
@[simp] theorem State.save_halted (s : State) : s.save.halted = s.halted := rfl
@[simp] theorem State.save_dataBus (s : State) : s.save.dataBus = s.dataBus := rfl
@[simp] theorem State.save_devices (s : State) : s.save.devices = s.devices := rfl
@[simp] theorem State.save_romSwitched (s : State) : s.save.romSwitched = s.romSwitched := rfl
@[simp] theorem State.save_ram (s : State) : s.save.ram = s.mem.ramBytes ramSize := by simp only [State.save]

/-! ### dummyRead and dummyWrite: what no dummy access touches -/

@[simp] theorem State.dummyRead_a (s : State) (a : Addr) : (s.dummyRead a).a = s.a := by
  unfold State.dummyRead; split <;> rfl
@[simp] theorem State.dummyRead_x (s : State) (a : Addr) : (s.dummyRead a).x = s.x := by
  unfold State.dummyRead; split <;> rfl
@[simp] theorem State.dummyRead_y (s : State) (a : Addr) : (s.dummyRead a).y = s.y := by
  unfold State.dummyRead; split <;> rfl
@[simp] theorem State.dummyRead_sp (s : State) (a : Addr) : (s.dummyRead a).sp = s.sp := by
  unfold State.dummyRead; split <;> rfl
@[simp] theorem State.dummyRead_pc (s : State) (a : Addr) : (s.dummyRead a).pc = s.pc := by
  unfold State.dummyRead; split <;> rfl
@[simp] theorem State.dummyRead_p (s : State) (a : Addr) : (s.dummyRead a).p = s.p := by
  unfold State.dummyRead; split <;> rfl
@[simp] theorem State.dummyRead_cycles (s : State) (a : Addr) : (s.dummyRead a).cycles = s.cycles := by
  unfold State.dummyRead; split <;> rfl
@[simp] theorem State.dummyRead_nmiPending (s : State) (a : Addr) : (s.dummyRead a).nmiPending = s.nmiPending := by
  unfold State.dummyRead; split <;> rfl
@[simp] theorem State.dummyRead_irqLine (s : State) (a : Addr) : (s.dummyRead a).irqLine = s.irqLine := by
  unfold State.dummyRead; split <;> rfl
@[simp] theorem State.dummyRead_halted (s : State) (a : Addr) : (s.dummyRead a).halted = s.halted := by
  unfold State.dummyRead; split <;> rfl
@[simp] theorem State.dummyRead_mem (s : State) (a : Addr) : (s.dummyRead a).mem = s.mem := by
  unfold State.dummyRead; split <;> rfl
@[simp] theorem State.dummyRead_romSwitched (s : State) (a : Addr) : (s.dummyRead a).romSwitched = s.romSwitched := by
  unfold State.dummyRead; split <;> rfl
@[simp] theorem State.dummyRead_dmaWritten (s : State) (a : Addr) : (s.dummyRead a).dmaWritten = s.dmaWritten := by
  unfold State.dummyRead; split <;> rfl
@[simp] theorem State.dummyRead_lastCost (s : State) (a : Addr) : (s.dummyRead a).lastCost = s.lastCost := by
  unfold State.dummyRead; split <;> rfl
@[simp] theorem State.dummyRead_inputs (s : State) (a : Addr) : (s.dummyRead a).inputs = s.inputs := by
  unfold State.dummyRead; split <;> rfl
@[simp] theorem State.dummyRead_cfg (s : State) (a : Addr) : (s.dummyRead a).cfg = s.cfg := by
  unfold State.dummyRead; split <;> rfl
@[simp] theorem State.dummyWrite_a (s : State) (a : Addr) (v : Byte) : (s.dummyWrite a v).a = s.a := by
  unfold State.dummyWrite; split <;> rfl
@[simp] theorem State.dummyWrite_x (s : State) (a : Addr) (v : Byte) : (s.dummyWrite a v).x = s.x := by
  unfold State.dummyWrite; split <;> rfl
@[simp] theorem State.dummyWrite_y (s : State) (a : Addr) (v : Byte) : (s.dummyWrite a v).y = s.y := by
  unfold State.dummyWrite; split <;> rfl
@[simp] theorem State.dummyWrite_sp (s : State) (a : Addr) (v : Byte) : (s.dummyWrite a v).sp = s.sp := by
  unfold State.dummyWrite; split <;> rfl
@[simp] theorem State.dummyWrite_pc (s : State) (a : Addr) (v : Byte) : (s.dummyWrite a v).pc = s.pc := by
  unfold State.dummyWrite; split <;> rfl
@[simp] theorem State.dummyWrite_p (s : State) (a : Addr) (v : Byte) : (s.dummyWrite a v).p = s.p := by
  unfold State.dummyWrite; split <;> rfl
@[simp] theorem State.dummyWrite_cycles (s : State) (a : Addr) (v : Byte) : (s.dummyWrite a v).cycles = s.cycles := by
  unfold State.dummyWrite; split <;> rfl
@[simp] theorem State.dummyWrite_nmiPending (s : State) (a : Addr) (v : Byte) : (s.dummyWrite a v).nmiPending = s.nmiPending := by
  unfold State.dummyWrite; split <;> rfl
@[simp] theorem State.dummyWrite_irqLine (s : State) (a : Addr) (v : Byte) : (s.dummyWrite a v).irqLine = s.irqLine := by
  unfold State.dummyWrite; split <;> rfl
@[simp] theorem State.dummyWrite_halted (s : State) (a : Addr) (v : Byte) : (s.dummyWrite a v).halted = s.halted := by
  unfold State.dummyWrite; split <;> rfl
@[simp] theorem State.dummyWrite_lastCost (s : State) (a : Addr) (v : Byte) : (s.dummyWrite a v).lastCost = s.lastCost := by
  unfold State.dummyWrite; split <;> rfl
@[simp] theorem State.dummyWrite_inputs (s : State) (a : Addr) (v : Byte) : (s.dummyWrite a v).inputs = s.inputs := by
  unfold State.dummyWrite; split <;> rfl
@[simp] theorem State.dummyWrite_cfg (s : State) (a : Addr) (v : Byte) : (s.dummyWrite a v).cfg = s.cfg := by
  unfold State.dummyWrite; split <;> rfl

end Sys2Proof.Machine
end

