-- ==== Sys2Proof/Laws/Bus.lean ====
section
/-! SUPPORT. What a bus access does, said once: which byte it answers, what of the state it leaves as it was, what it
records. -/

namespace Sys2Proof.Machine

open Sys2Proof

/-! ## States that differ in the bus side alone -/

/-- `t` is `s` but for the data bus, the devices and the record: what a read leaves. -/
def SameButBus (s t : State) : Prop :=
  ∃ d v tr, t = { s with dataBus := d, devices := v, trace := tr }

theorem SameButBus.refl (s : State) : SameButBus s s := ⟨s.dataBus, s.devices, s.trace, rfl⟩

theorem SameButBus.trans {s t u : State} (h : SameButBus s t) (h' : SameButBus t u) : SameButBus s u := by
  obtain ⟨d, v, tr, rfl⟩ := h
  obtain ⟨d', v', tr', rfl⟩ := h'
  exact ⟨d', v', tr', rfl⟩

theorem busRead_sameButBus (s : State) (a : Addr) : SameButBus s (s.busRead a) := ⟨_, _, _, rfl⟩

theorem busRead2_sameButBus (s : State) (a b : Addr) : SameButBus s (s.busRead2 a b) :=
  (busRead_sameButBus s a).trans (busRead_sameButBus _ b)

theorem dummyRead_sameButBus (s : State) (a : Addr) : SameButBus s (s.dummyRead a) := by
  unfold State.dummyRead
  split
  · exact busRead_sameButBus s a
  · exact SameButBus.refl s

section
variable {s t : State} (h : SameButBus s t)
include h

theorem SameButBus.cpu : t.cpu = s.cpu := by obtain ⟨_, _, _, rfl⟩ := h; rfl
theorem SameButBus.a : t.a = s.a := by obtain ⟨_, _, _, rfl⟩ := h; rfl
theorem SameButBus.x : t.x = s.x := by obtain ⟨_, _, _, rfl⟩ := h; rfl
theorem SameButBus.y : t.y = s.y := by obtain ⟨_, _, _, rfl⟩ := h; rfl
theorem SameButBus.sp : t.sp = s.sp := by obtain ⟨_, _, _, rfl⟩ := h; rfl
theorem SameButBus.pc : t.pc = s.pc := by obtain ⟨_, _, _, rfl⟩ := h; rfl
theorem SameButBus.p : t.p = s.p := by obtain ⟨_, _, _, rfl⟩ := h; rfl
theorem SameButBus.mem : t.mem = s.mem := by obtain ⟨_, _, _, rfl⟩ := h; rfl
theorem SameButBus.cycles : t.cycles = s.cycles := by obtain ⟨_, _, _, rfl⟩ := h; rfl
theorem SameButBus.cfg : t.cfg = s.cfg := by obtain ⟨_, _, _, rfl⟩ := h; rfl
theorem SameButBus.dmaWritten : t.dmaWritten = s.dmaWritten := by obtain ⟨_, _, _, rfl⟩ := h; rfl
theorem SameButBus.romSwitched : t.romSwitched = s.romSwitched := by obtain ⟨_, _, _, rfl⟩ := h; rfl
theorem SameButBus.heldByte (a : Addr) : t.heldByte a = s.heldByte a := by obtain ⟨_, _, _, rfl⟩ := h; rfl

end

/-! ## Which byte a read answers -/

/-- A read of a byte the model holds answers that byte (20_memory.md R53, R56). -/
theorem busByte_of_heldByte {s : State} {a : Addr} {b : Byte} (h : s.heldByte a = some b) : s.busByte a = b := by
  unfold State.heldByte at h
  unfold State.busByte route
  by_cases h1 : a.toNat < 0x2000
  · simp only [h1, if_true, Option.some.injEq] at h ⊢
    exact h
  · simp only [h1, if_false] at h ⊢
    split at h
    · rename_i h2
      have h3 : s.romByte a = some b := by
        unfold State.romByte State.romHolds romBase
        rw [if_pos]
        · exact h
        · refine ⟨?_, h2.2⟩
          rcases h2.1 with h4 | h4 <;> simp [h4]
      rw [if_neg (by omega), if_neg (by omega), if_neg (by omega)]
      simp [h3]
    · cases h

theorem zext16_toNat (b : Byte) : (zext16 b).toNat = b.toNat := by
  unfold zext16; simp only [BitVec.toNat_setWidth]; omega

theorem heldByte_ram (s : State) {a : Addr} (h : a.toNat < 0x2000) :
    s.heldByte a = some (s.mem.ram (a.toNat % 0x800)) := by
  unfold State.heldByte; rw [if_pos h]

/-- The zero page is RAM (20_memory.md R64). -/
theorem busByte_zeroPage (s : State) (b : Byte) : s.busByte (zext16 b) = s.mem.ram b.toNat := by
  have hb := b.isLt
  have h : (zext16 b).toNat < 0x2000 := by rw [zext16_toNat]; omega
  rw [busByte_of_heldByte (heldByte_ram s h), zext16_toNat, Nat.mod_eq_of_lt (by omega)]

theorem stackSlot_toNat (sp : Byte) : (stackSlot sp).toNat = stackCell sp := by
  unfold stackSlot word stackCell
  have h := sp.isLt
  rw [BitVec.toNat_append]
  rw [← Nat.shiftLeft_add_eq_or_of_lt h]
  rfl

/-- The stack page is RAM (R64). -/
theorem busByte_stack (s : State) (sp : Byte) : s.busByte (stackSlot sp) = s.mem.ram (stackCell sp) := by
  have hb := sp.isLt
  have h : (stackSlot sp).toNat < 0x2000 := by rw [stackSlot_toNat]; unfold stackCell; omega
  rw [busByte_of_heldByte (heldByte_ram s h), stackSlot_toNat, Nat.mod_eq_of_lt (by unfold stackCell; omega)]

/-- A zero-page pointer read through the bus is the pointer the RAM holds (40_addressing.md R108, R109). -/
theorem busWord_zeroPage (s : State) (b : Byte) : s.busWord (zext16 b) (zext16 (b + 1)) = s.zpPointer b := by
  unfold State.busWord State.zpPointer
  rw [busByte_zeroPage, busByte_zeroPage]
  rfl

/-! ## What an access records -/

theorem Accessed.refl (s : State) : Accessed s s [] := by simp [Accessed]

theorem Accessed.trans {s t u : State} {l l' : List Access1} (h : Accessed s t l) (h' : Accessed t u l') :
    Accessed s u (l ++ l') := by
  unfold Accessed at *; rw [h', h]; simp

theorem busRead_accessed (s : State) (a : Addr) : Accessed s (s.busRead a) [(.read, a)] := by
  simp [Accessed, BusEvent.key]

theorem busWrite_accessed (s : State) (a : Addr) (v : Byte) : Accessed s (s.busWrite a v) [(.write, a)] := by
  simp [Accessed, BusEvent.key]

theorem dummyRead_accessed (s : State) (a : Addr) : Accessed s (s.dummyRead a) (s.dummies [(.read, a)]) := by
  unfold State.dummyRead State.dummies
  split
  · exact busRead_accessed s a
  · exact Accessed.refl s

theorem dummyWrite_accessed (s : State) (a : Addr) (v : Byte) :
    Accessed s (s.dummyWrite a v) (s.dummies [(.write, a)]) := by
  unfold State.dummyWrite State.dummies
  split
  · exact busWrite_accessed s a v
  · exact Accessed.refl s

/-- The accesses depend on the record alone. -/
theorem Accessed.of_trace {s t t' : State} {l : List Access1} (h : Accessed s t l) (ht : t'.trace = t.trace) :
    Accessed s t' l := by unfold Accessed at *; rw [ht, h]

theorem dummies_congr {s t : State} (h : t.cfg = s.cfg) (l : List Access1) : t.dummies l = s.dummies l := by
  unfold State.dummies; rw [h]

/-! ## The data bus (10_state.md R39, 20_memory.md R58) -/

/-- From `s` to `t` every access left its byte on the data bus. -/
def Latches (s t : State) : Prop := ∃ ev, t.trace = ev ++ s.trace ∧ t.dataBus = newestByte ev s.dataBus

theorem Latches.refl (s : State) : Latches s s := ⟨[], rfl, rfl⟩

theorem Latches.trans {s t u : State} (h : Latches s t) (h' : Latches t u) : Latches s u := by
  obtain ⟨e, h1, h2⟩ := h
  obtain ⟨e', h1', h2'⟩ := h'
  refine ⟨e' ++ e, by rw [h1', h1, List.append_assoc], ?_⟩
  rw [h2', h2]
  cases e' <;> rfl

theorem busRead_latches (s : State) (a : Addr) : Latches s (s.busRead a) := ⟨[⟨.read, a, s.busByte a⟩], rfl, rfl⟩

theorem busWrite_latches (s : State) (a : Addr) (v : Byte) : Latches s (s.busWrite a v) := ⟨[⟨.write, a, v⟩], rfl, rfl⟩

theorem busRead2_latches (s : State) (a b : Addr) : Latches s (s.busRead2 a b) :=
  (busRead_latches s a).trans (busRead_latches _ b)

theorem dummyRead_latches (s : State) (a : Addr) : Latches s (s.dummyRead a) := by
  unfold State.dummyRead
  split
  · exact busRead_latches s a
  · exact Latches.refl s

theorem dummyWrite_latches (s : State) (a : Addr) (v : Byte) : Latches s (s.dummyWrite a v) := by
  unfold State.dummyWrite
  split
  · exact busWrite_latches s a v
  · exact Latches.refl s

/-- An open-bus read answers the latch (R58). -/
theorem busByte_openBus (s : State) (a : Addr) (h : 0x4018 ≤ a.toNat) (h' : a.toNat < 0x4020) :
    s.busByte a = s.dataBus := by
  unfold State.busByte route
  rw [if_neg (by omega), if_neg (by omega), if_neg (by omega), if_pos h']

/-! ## Writes -/

theorem Written.refl (s : State) : Written s s [] := fun _ => rfl

theorem Written.of_mem {s t : State} (h : t.mem = s.mem) : Written s t [] := by intro k; rw [h]; rfl

theorem Written.trans {s t u : State} {ws ws' : List Host.Cell} (h : Written s t ws) (h' : Written t u ws') :
    Written s u (ws' ++ ws) := by
  intro k
  rw [h' k, h k]
  rw [List.lookup_append]
  cases List.lookup k ws' <;> simp

theorem Written.congr {s t s' t' : State} {ws : List Host.Cell} (h : Written s t ws) (hs : s'.mem = s.mem)
    (ht : t'.mem = t.mem) : Written s' t' ws := by intro k; rw [ht, hs]; exact h k

theorem isDevice_eq (a : Addr) : isDevice a = decide (0x2000 ≤ a.toNat) := rfl

/-- A write changes the RAM cell it reaches, if any, and no other byte (20_memory.md R53, R59). -/
theorem busWrite_written (s : State) (a : Addr) (v : Byte) : Written s (s.busWrite a v) (storeCells a v) := by
  intro k
  rw [State.busWrite_mem]
  unfold storeCells isDevice ramCell ramSize
  by_cases h : a.toNat < 0x2000
  · rw [if_neg (by simp; omega), if_pos h, Memory.read_write]
    by_cases hk : k = a.toNat % 0x800
    · simp [hk]
    · have : (k == a.toNat % 0x800) = false := by simpa using hk
      simp [List.lookup, this, hk]
  · rw [if_pos (by simp; omega), if_neg h]; rfl

theorem dummyWrite_written (s : State) (a : Addr) (v : Byte) :
    Written s (s.dummyWrite a v) (if s.cfg.dummyAccesses then storeCells a v else []) := by
  unfold State.dummyWrite
  split
  · exact busWrite_written s a v
  · exact Written.refl s

/-- Writing a place twice leaves the second byte. -/
theorem storeCells_twice (a : Addr) (v w : Byte) (k : Nat) (o : Option Byte) :
    ((storeCells a v ++ storeCells a w).lookup k).or o = ((storeCells a v).lookup k).or o := by
  unfold storeCells
  split
  · by_cases hk : k = a.toNat % 0x800
    · simp [hk]
    · have : (k == a.toNat % 0x800) = false := by simpa using hk
      simp [List.lookup, this]
  · rfl

theorem busWrite_cpu (s : State) (a : Addr) (v : Byte) : (s.busWrite a v).cpu = (s.noteWrite a).cpu := rfl

theorem noteWrite_twice (s : State) (a : Addr) : (s.noteWrite a).noteWrite a = s.noteWrite a := by
  simp [State.noteWrite]

theorem dummyWrite_then (s : State) (a : Addr) (v w : Byte) :
    ((s.dummyWrite a v).busWrite a w).cpu = (s.noteWrite a).cpu := by
  unfold State.dummyWrite
  split
  · simp only [State.cpu, State.noteWrite, State.busWrite, Bool.or_assoc, Bool.or_self]
  · rfl

/-- Below 0x4020 a write cannot switch ROM banks. -/
theorem noteWrite_of_lt (s : State) {a : Addr} (h : a.toNat < 0x4020) : s.noteWrite a = s := by
  have : decide (0x4020 ≤ a.toNat) = false := by simpa using h
  simp [State.noteWrite, this]

/-! ## `cpu` -/

/-- Two states agree on `cpu` exactly when they agree on every register, flag, latch, input and parameter. -/
theorem cpu_eq_iff (s t : State) : t.cpu = s.cpu ↔
    t.a = s.a ∧ t.x = s.x ∧ t.y = s.y ∧ t.sp = s.sp ∧ t.pc = s.pc ∧ t.p = s.p ∧ t.nmiPending = s.nmiPending ∧
      t.irqLine = s.irqLine ∧ t.halted = s.halted ∧ t.romSwitched = s.romSwitched ∧ t.inputs = s.inputs ∧
      t.cfg = s.cfg := by
  unfold State.cpu
  simp only [State.mk.injEq, true_and]

theorem finish_cpu (s : State) (c : Nat) : (s.finish c).cpu = s.cpu := rfl

theorem finish_accessed {s t : State} {l : List Access1} (h : Accessed s t l) (c : Nat) :
    Accessed s (t.finish c) l := h

/-- What the end of a step charges, from a state with the counter and the DMA mark of the step's start. -/
theorem finish_charged {s t : State} (c : Nat) (dma : Bool) (hc : t.cycles = s.cycles) (hf : t.cfg = s.cfg)
    (hd : t.dmaWritten = (s.dmaWritten || dma)) : Charged s (t.finish c) c dma := by
  refine ⟨t.busStall, ?_, rfl, ?_, rfl⟩
  · intro h1 h2
    unfold State.busStall
    rw [hd, h1, h2]; rfl
  · rw [State.finish_cycles, hc, hf]; rfl

end Sys2Proof.Machine
end

