-- ==== Sys2Proof/Laws/Decode.lean ====
section
/-! SUPPORT. The decoder and the encoder: bytes of an address, when decoding succeeds (30_encoding.md R81, R82). -/

namespace Sys2Proof

/-- An address is its high byte and its low byte (00_scope.md R12). -/
theorem word_hiByte_loByte (w : Addr) : word (hiByte w) (loByte w) = w := by
  have := w.isLt
  apply BitVec.eq_of_toNat_eq
  unfold word hiByte loByte
  rw [BitVec.toNat_append, ← Nat.shiftLeft_add_eq_or_of_lt (BitVec.isLt _)]
  simp only [BitVec.toNat_setWidth, BitVec.toNat_ushiftRight, Nat.shiftRight_eq_div_pow, Nat.shiftLeft_eq]
  omega

theorem word_toNat (hi lo : Byte) : (word hi lo).toNat = hi.toNat * 256 + lo.toNat := by
  unfold word
  rw [BitVec.toNat_append, ← Nat.shiftLeft_add_eq_or_of_lt lo.isLt, Nat.shiftLeft_eq]

theorem loByte_word (hi lo : Byte) : loByte (word hi lo) = lo := by
  have := lo.isLt
  apply BitVec.eq_of_toNat_eq
  rw [show loByte (word hi lo) = (word hi lo).setWidth 8 from rfl, BitVec.toNat_setWidth, word_toNat]
  omega

theorem hiByte_word (hi lo : Byte) : hiByte (word hi lo) = hi := by
  have := lo.isLt
  have := hi.isLt
  apply BitVec.eq_of_toNat_eq
  rw [show hiByte (word hi lo) = ((word hi lo) >>> 8).setWidth 8 from rfl, BitVec.toNat_setWidth,
    BitVec.toNat_ushiftRight, word_toNat, Nat.shiftRight_eq_div_pow]
  omega

/-- Decoding, by the form of the opcode byte (R82). -/
theorem decode_f1 {op : Byte} {i : Instr} (h : opcodeForm op = .f1 i) (rest : List Byte) :
    decode (op :: rest) = .ok (i, rest) := by simp only [decode, h]

theorem decode_f2 {op : Byte} {mk : Byte → Instr} (h : opcodeForm op = .f2 mk) (b : Byte) (rest : List Byte) :
    decode (op :: b :: rest) = .ok (mk b, rest) := by simp only [decode, h]

theorem decode_f3 {op : Byte} {mk : Addr → Instr} (h : opcodeForm op = .f3 mk) (lo hi : Byte) (rest : List Byte) :
    decode (op :: lo :: hi :: rest) = .ok (mk (word hi lo), rest) := by simp only [decode, h]

/-- Decoding succeeds on an opcode byte with its operand bytes, whatever the byte (R81). -/
theorem decode_isOk (op : Byte) (bs : List Byte) (h : (opcodeForm op).length ≤ bs.length + 1) :
    ∃ i rest, decode (op :: bs) = .ok (i, rest) ∧ rest.length + (opcodeForm op).length = bs.length + 1 := by
  cases hf : opcodeForm op with
  | f1 i => exact ⟨i, bs, decode_f1 hf bs, rfl⟩
  | f2 mk =>
    rw [hf] at h
    match bs with
    | [] => simp [Form.length] at h
    | b :: rest => exact ⟨mk b, rest, decode_f2 hf b rest, rfl⟩
  | f3 mk =>
    rw [hf] at h
    match bs with
    | [] => simp [Form.length] at h
    | [_] => simp [Form.length] at h
    | lo :: hi :: rest => exact ⟨mk (word hi lo), rest, decode_f3 hf lo hi rest, rfl⟩

namespace Machine

theorem fetchedBytes_length (n : Nat) (s : State) : (State.fetchedBytes n s).length = n := by
  induction n generalizing s with
  | zero => rfl
  | succ n ih => simp [State.fetchedBytes, ih]

theorem instrLength_pos (op : Byte) : ∃ n, instrLength op = n + 1 := by
  unfold instrLength
  cases opcodeForm op with
  | f1 i => exact ⟨0, rfl⟩
  | f2 mk => exact ⟨1, rfl⟩
  | f3 mk => exact ⟨2, rfl⟩

/-- The bytes at PC always decode, with none left over. -/
theorem instruction_isOk (s : State) : ∃ i, s.instruction = .ok (i, []) := by
  obtain ⟨n, hn⟩ := instrLength_pos s.fetched
  unfold State.instruction
  rw [hn]
  have hl := fetchedBytes_length n s.fetch8
  obtain ⟨i, rest, h, hr⟩ := decode_isOk s.fetched (State.fetchedBytes n s.fetch8)
    (by rw [hl]; exact le_of_eq hn)
  refine ⟨i, ?_⟩
  have hn' : (opcodeForm s.fetched).length = n + 1 := hn
  have h0 : rest = [] := by rw [hl, hn'] at hr; exact List.eq_nil_of_length_eq_zero (by omega)
  rw [← h0]; exact h

end Machine

end Sys2Proof
end

