-- ==== Sys2Proof/Laws/Shapes.lean ====
section
/-! SUPPORT. What each shape of instruction does, said once: locating an operand, and the classes `read`, `write`, `rmw`,
`none` and `branch` (40_addressing.md R115, R116). -/

namespace Sys2Proof.Machine

open Sys2Proof

/-! ## Locating -/

/-- What an addressing mode's operand is, from the registers and RAM alone (R102 to R111). -/
def State.operandOf (s : State) (m : Mode) : Operand :=
  match s.effAddr m with
  | some ea => .mem ea (s.crosses m)
  | none => match m with | .imm b => .imm b | _ => .acc

theorem locateIndexed_spec (cls : Access) (base : Addr) (index : Byte) (s : State) :
    (locateIndexed cls base index s).opd = .mem (base + zext16 index) (pageCross base (base + zext16 index)) ∧
    SameButBus s (locateIndexed cls base index s).st ∧
    Accessed s (locateIndexed cls base index s).st
      (if cls = .read ∧ pageCross base (base + zext16 index) = false then []
       else s.dummies [(.read, inPageOf base (base + zext16 index))]) := by
  unfold locateIndexed
  refine ⟨rfl, ?_, ?_⟩ <;> simp only <;> split
  · exact SameButBus.refl s
  · exact dummyRead_sameButBus s _
  · exact Accessed.refl s
  · exact dummyRead_accessed s _

theorem busRead2_accessed (s : State) (a b : Addr) : Accessed s (s.busRead2 a b) [(.read, a), (.read, b)] :=
  (busRead_accessed s a).trans (busRead_accessed _ b)

/-- Locating an operand finds it where the registers and RAM put it, leaves everything but the bus side as it was, and
makes the accesses of its mode. -/
theorem locate_spec (cls : Access) (m : Mode) (s : State) :
    (locate cls m s).opd = s.operandOf m ∧ SameButBus s (locate cls m s).st ∧
      Accessed s (locate cls m s).st (s.locating cls m) := by
  cases m with
  | acc => exact ⟨rfl, dummyRead_sameButBus s _, dummyRead_accessed s _⟩
  | imm b => exact ⟨rfl, SameButBus.refl s, Accessed.refl s⟩
  | zp b => exact ⟨rfl, SameButBus.refl s, Accessed.refl s⟩
  | zpX b => exact ⟨rfl, dummyRead_sameButBus s _, dummyRead_accessed s _⟩
  | zpY b => exact ⟨rfl, dummyRead_sameButBus s _, dummyRead_accessed s _⟩
  | abs w => exact ⟨rfl, SameButBus.refl s, Accessed.refl s⟩
  | absX w => exact locateIndexed_spec cls w s.x s
  | absY w => exact locateIndexed_spec cls w s.y s
  | indX b =>
    have h1 := dummyRead_sameButBus s (zext16 b)
    refine ⟨?_, h1.trans (busRead2_sameButBus _ _ _), (dummyRead_accessed s _).trans (busRead2_accessed _ _ _)⟩
    have h2 : (s.dummyRead (zext16 b)).zpPointer (b + s.x) = s.zpPointer (b + s.x) := by
      unfold State.zpPointer; rw [h1.mem]
    simp only [locate, State.operandOf, State.effAddr, State.crosses, busWord_zeroPage, h2]
  | indY b =>
    have h1 := busRead2_sameButBus s (zext16 b) (zext16 (b + 1))
    obtain ⟨e1, e2, e3⟩ := locateIndexed_spec cls (s.busWord (zext16 b) (zext16 (b + 1))) s.y
      (s.busRead2 (zext16 b) (zext16 (b + 1)))
    refine ⟨?_, h1.trans e2, ?_⟩
    · rw [busWord_zeroPage] at e1
      simp only [locate, busWord_zeroPage, State.operandOf, State.effAddr, State.crosses, e1]
    · have e4 := (busRead2_accessed s (zext16 b) (zext16 (b + 1))).trans e3
      rw [busWord_zeroPage] at e4
      simp only [locate, busWord_zeroPage]
      rw [dummies_congr h1.cfg] at e4
      exact e4

theorem locate_latches (cls : Access) (m : Mode) (s : State) : Latches s (locate cls m s).st := by
  have indexed (base : Addr) (i : Byte) (u : State) : Latches u (locateIndexed cls base i u).st := by
    unfold locateIndexed
    simp only
    split
    · exact Latches.refl u
    · exact dummyRead_latches u _
  cases m with
  | acc => exact dummyRead_latches s _
  | imm b => exact Latches.refl s
  | zp b => exact Latches.refl s
  | zpX b => exact dummyRead_latches s _
  | zpY b => exact dummyRead_latches s _
  | abs w => exact Latches.refl s
  | absX w => exact indexed w s.x s
  | absY w => exact indexed w s.y s
  | indX b => exact (dummyRead_latches s _).trans (busRead2_latches _ _ _)
  | indY b => exact (busRead2_latches s _ _).trans (indexed _ _ _)

/-- Two states with the same registers and RAM find an operand in the same place. -/
theorem SameButBus.operandOf {s t : State} (h : SameButBus s t) (m : Mode) : t.operandOf m = s.operandOf m := by
  obtain ⟨_, _, _, rfl⟩ := h; cases m <;> rfl

/-! ## Loading and storing -/

theorem loaded_sameButBus (o : Operand) (s : State) : SameButBus s (o.loaded s) := by
  cases o with
  | mem ea c => exact busRead_sameButBus s ea
  | acc => exact SameButBus.refl s
  | imm v => exact SameButBus.refl s

theorem loaded_accessed (o : Operand) (s : State) :
    Accessed s (o.loaded s) (match o with | .mem ea _ => [(.read, ea)] | _ => []) := by
  cases o with
  | mem ea c => exact busRead_accessed s ea
  | acc => exact Accessed.refl s
  | imm v => exact Accessed.refl s

/-- The byte loaded is the byte `Loaded` speaks of, as long as later accesses of the step are writes. -/
theorem value_loaded {s l t : State} (m : Mode) (h : SameButBus s l) (hL : Latches s l) (later : List BusEvent)
    (hl : ∀ e ∈ later, e.dir = .write) (ht : t.trace = later ++ ((s.operandOf m).loaded l).trace) :
    Loaded s t m ((s.operandOf m).value l) := by
  have key : ∀ ea, s.effAddr m = some ea → Loaded s t m ((s.operandOf m).value l) := by
    intro ea hea
    unfold State.operandOf Loaded at *
    rw [hea] at ht ⊢
    simp only [Operand.value, Operand.loaded] at ht ⊢
    obtain ⟨ev, h1, h2⟩ := hL
    refine ⟨later, ev, ?_, hl, fun b hb => busByte_of_heldByte (by rw [h.heldByte]; exact hb), fun h3 h4 => ?_⟩
    · rw [ht, State.busRead_trace, h1]
    · rw [busByte_openBus l ea h3 h4, h2]
  cases m with
  | acc => exact h.a
  | imm b => rfl
  | zp b => exact key _ rfl
  | zpX b => exact key _ rfl
  | zpY b => exact key _ rfl
  | abs w => exact key _ rfl
  | absX w => exact key _ rfl
  | absY w => exact key _ rfl
  | indX b => exact key _ rfl
  | indY b => exact key _ rfl

/-! ## The classes -/

/-- `f` changes registers and flags alone. -/
def RegistersOnly (f : State → Byte → State) : Prop :=
  ∀ t v, (f t v).mem = t.mem ∧ (f t v).trace = t.trace ∧ (f t v).cycles = t.cycles ∧
    (f t v).dmaWritten = t.dmaWritten ∧ (f t v).cfg = t.cfg ∧ (f t v).dataBus = t.dataBus ∧
    (f t v).devices = t.devices

theorem penalty_operandOf (s : State) (m : Mode) : (s.operandOf m).penalty = (s.crosses m).toNat := by
  cases m with
  | absX w => simp only [State.operandOf, State.effAddr]; cases h : s.crosses (.absX w) <;> rfl
  | absY w => simp only [State.operandOf, State.effAddr]; cases h : s.crosses (.absY w) <;> rfl
  | indY b => simp only [State.operandOf, State.effAddr]; cases h : s.crosses (.indY b) <;> rfl
  | acc => rfl
  | imm b => rfl
  | zp b => rfl
  | zpX b => rfl
  | zpY b => rfl
  | abs w => rfl
  | indX b => rfl

/-- Class `read`: whatever `f` does with the byte, the step is a `ReadStep`. -/
theorem readOp_spec (m : Mode) (cost : Nat) (f : State → Byte → State) (s : State) (upd : Byte → State)
    (hm : m ≠ .acc) (hf : RegistersOnly f) (hu : ∀ t v, t.cpu = s.cpu → (f t v).cpu = (upd v).cpu) :
    ReadStep s (readOp m cost f s) m cost upd := by
  obtain ⟨e1, e2, e3⟩ := locate_spec .read m s
  unfold readOp
  simp only [e1, penalty_operandOf]
  set l := (locate .read m s).st
  have hl := e2.trans (loaded_sameButBus (s.operandOf m) l)
  obtain ⟨f1, f2, f3, f4, f5, _⟩ := hf ((s.operandOf m).loaded l) ((s.operandOf m).value l)
  refine ⟨(s.operandOf m).value l, ?_, ?_, ?_, ?_, ?_⟩
  · exact value_loaded m e2 (locate_latches .read m s) [] (by simp) (by simpa using f2)
  · exact hu _ _ hl.cpu
  · exact Written.of_mem (f1.trans hl.mem)
  · exact finish_charged _ false (f3.trans hl.cycles) (f5.trans hl.cfg) (by simp [f4, hl.dmaWritten])
  · have acc := (e3.trans (loaded_accessed (s.operandOf m) l)).of_trace f2
    have : s.plan .read m = s.locating .read m ++ (match s.operandOf m with | .mem ea _ => [(.read, ea)] | _ => []) := by
      unfold State.plan State.operandOf
      cases h : s.effAddr m with
      | some ea => rfl
      | none =>
        cases m with
        | acc => exact absurd rfl hm
        | _ => rfl
    rw [this]
    exact acc

/-- Class `write`. -/
theorem writeOp_spec (m : Mode) (cost : Nat) (v : Byte) (s : State) (ea : Addr) (h : s.effAddr m = some ea) :
    WriteStep s (writeOp m cost v s) m cost v := by
  obtain ⟨e1, e2, e3⟩ := locate_spec .write m s
  unfold writeOp
  simp only [e1]
  have ho : s.operandOf m = .mem ea (s.crosses m) := by unfold State.operandOf; rw [h]
  rw [ho]
  simp only [Operand.store]
  set l := (locate .write m s).st
  refine ⟨ea, h, ?_, ?_, ?_, ?_, rfl⟩
  · rw [finish_cpu, busWrite_cpu]
    obtain ⟨_, _, _, hl⟩ := e2
    rw [hl]; rfl
  · exact ((busWrite_written l ea v).congr e2.mem.symm rfl)
  · refine finish_charged cost _ e2.cycles e2.cfg ?_
    rw [State.busWrite_dmaWritten, e2.dmaWritten]
    rfl
  · have := e3.trans (busWrite_accessed l ea v)
    unfold State.plan; rw [h]
    exact this

/-- Class `rmw`: the byte is loaded, `new` of it stored in its place, and `g` gives the registers and flags. -/
theorem rmwOp_spec (m : Mode) (cost : Nat) (new : Byte → Byte) (g : State → Byte → Byte → State) (s : State)
    (upd : State → Byte → State) (ea : Addr) (h : s.effAddr m = some ea)
    (hg : ∀ r, RegistersOnly (fun t v => g t v r))
    (hu : ∀ t u v, t.cpu = u.cpu → u.p = s.p → (g t v (new v)).cpu = (upd u v).cpu) :
    ModifyStep s (rmwOp m cost new g s) m cost new upd := by
  obtain ⟨e1, e2, e3⟩ := locate_spec .rmw m s
  unfold rmwOp
  simp only [e1]
  have ho : s.operandOf m = .mem ea (s.crosses m) := by unfold State.operandOf; rw [h]
  have hv := fun (t : State) (later : List BusEvent) hl ht => value_loaded (s := s) (t := t) m e2 (locate_latches .rmw m s) later hl ht
  rw [ho] at hv ⊢
  simp only [Operand.store, Operand.value, Operand.loaded, Operand.writeBack] at hv ⊢
  set l := (locate .rmw m s).st
  set v := l.busByte ea
  have hl := e2.trans (busRead_sameButBus l ea)
  set l1 := l.busRead ea
  set l2 := l1.dummyWrite ea v
  set l3 := l2.busWrite ea (new v)
  obtain ⟨f1, f2, f3, f4, f5, _⟩ := hg (new v) l3 v
  have hc2 : l2.cfg = s.cfg := by simp only [l2, State.dummyWrite_cfg, hl.cfg]
  have hcpu : l3.cpu = (s.noteWrite ea).cpu := by
    have := dummyWrite_then l1 ea v (new v)
    obtain ⟨_, _, _, hl'⟩ := hl
    rw [show l3 = (l1.dummyWrite ea v).busWrite ea (new v) from rfl, this, hl']; rfl
  have tr2 : l2.trace = (if s.cfg.dummyAccesses then [⟨.write, ea, v⟩] else []) ++ l1.trace := by
    simp only [l2, State.dummyWrite, hl.cfg]; split <;> rfl
  refine ⟨ea, v, h, ?_, ?_, ?_, ?_, ?_, ?_, ?_⟩
  · refine hv _ (⟨.write, ea, new v⟩ :: (if s.cfg.dummyAccesses then [⟨.write, ea, v⟩] else [])) ?_ ?_
    · intro e he
      split at he <;> simp at he
      · rcases he with rfl | rfl <;> rfl
      · rw [he]
    · rw [State.finish_trace, f2, show l3.trace = ⟨.write, ea, new v⟩ :: l2.trace from rfl, tr2]; rfl
  · rw [finish_cpu]
    exact hu _ _ _ hcpu rfl
  · have w := (dummyWrite_written l1 ea v).trans (busWrite_written l2 ea (new v))
    intro k
    rw [State.finish_mem, f1, w k, hl.mem]
    split
    · unfold storeCells
      split
      · by_cases hk : k = ea.toNat % 0x800
        · simp [hk]
        · have : (k == ea.toNat % 0x800) = false := by simpa using hk
          simp [List.lookup, this]
      · rfl
    · simp
  · refine finish_charged cost _ ?_ (f5.trans ?_) ?_
    · rw [f3, show l3.cycles = l2.cycles from rfl]
      simp only [l2, State.dummyWrite_cycles, hl.cycles]
    · exact hc2
    · rw [f4, show l3.dmaWritten = (l2.dmaWritten || ea == 0x4014) from rfl]
      have : l2.dmaWritten = (s.dmaWritten || (s.cfg.dummyAccesses && ea == 0x4014)) := by
        simp only [l2, State.dummyWrite, hl.cfg]
        split
        · rename_i hd; simp [hd, hl.dmaWritten]
        · rename_i hd; simp [hd, hl.dmaWritten]
      rw [this]
      cases s.dmaWritten <;> cases s.cfg.dummyAccesses <;> simp [BEq.beq]
  · have acc := ((e3.trans (busRead_accessed l ea)).trans (dummyWrite_accessed l1 ea v)).trans
      (busWrite_accessed l2 ea (new v))
    rw [dummies_congr hl.cfg] at acc
    have acc' := acc.of_trace (t' := (g l3 v (new v)).finish cost) f2
    unfold State.plan; rw [h]
    simpa [State.operating, List.append_assoc] using acc'
  · rw [State.finish_trace, f2]; rfl
  · intro hd
    rw [State.finish_trace, f2, show l3.trace = ⟨.write, ea, new v⟩ :: l2.trace from rfl, tr2, if_pos hd]; rfl

/-- An accumulator form of class `rmw`'s instructions: A is loaded and stored, nothing of memory is touched. -/
theorem rmwOp_acc_spec (cost : Nat) (new : Byte → Byte) (g : State → Byte → Byte → State) (s u : State)
    (hg : ∀ r, RegistersOnly (fun t v => g t v r))
    (hu : ∀ t, t.cpu = ({ s with a := new s.a } : State).cpu → (g t s.a (new s.a)).cpu = u.cpu) :
    RegisterStep s (rmwOp .acc cost new g s) cost u (s.dummies [(.read, s.pc)]) := by
  unfold rmwOp
  simp only [locate, Operand.store, Operand.value, Operand.loaded, Operand.writeBack, State.dummyRead_a]
  have hd := dummyRead_sameButBus s s.pc
  set l : State := { s.dummyRead s.pc with a := new s.a }
  obtain ⟨f1, f2, f3, f4, f5, _⟩ := hg (new s.a) l s.a
  refine ⟨?_, ?_, ?_, ?_⟩
  · rw [finish_cpu]
    refine hu _ ?_
    obtain ⟨_, _, _, hd'⟩ := hd
    simp only [l, hd']; rfl
  · exact Written.of_mem (f1.trans hd.mem)
  · exact finish_charged cost false (f3.trans hd.cycles) (f5.trans hd.cfg) (by rw [f4]; simp [l])
  · exact (dummyRead_accessed s s.pc).of_trace f2

/-- Class `none` in implied mode. -/
theorem impliedOp_spec (cost : Nat) (f : State → State) (s u : State) (hf : RegistersOnly (fun t _ => f t))
    (hu : ∀ t, t.cpu = s.cpu → (f t).cpu = u.cpu) :
    RegisterStep s (impliedOp cost f s) cost u (s.dummies [(.read, s.pc)]) := by
  have hd := dummyRead_sameButBus s s.pc
  obtain ⟨f1, f2, f3, f4, f5, _⟩ := hf (s.dummyRead s.pc) 0
  refine ⟨hu _ hd.cpu, Written.of_mem (f1.trans hd.mem), ?_, (dummyRead_accessed s s.pc).of_trace f2⟩
  exact finish_charged cost false (f3.trans hd.cycles) (f5.trans hd.cfg) (by rw [f4]; simp)

/-- A branch that is not taken. -/
theorem branchOp_false_spec (off : Byte) (s : State) : RegisterStep s (branchOp false off s) 2 s [] :=
  ⟨rfl, Written.of_mem rfl, finish_charged 2 false rfl rfl (by simp), Accessed.refl s⟩

/-- A taken branch (45_control.md R205, R116). -/
theorem branchOp_true_spec (off : Byte) (s : State) :
    RegisterStep s (branchOp true off s) (3 + (pageCross s.pc (s.pc + sext16 off)).toNat)
      { s with pc := s.pc + sext16 off }
      (s.dummies ((.read, s.pc) ::
        if pageCross s.pc (s.pc + sext16 off) then [(.read, inPageOf s.pc (s.pc + sext16 off))] else [])) := by
  have hd := dummyRead_sameButBus s s.pc
  by_cases hc : pageCross s.pc (s.pc + sext16 off) = true
  · have hd2 := hd.trans (dummyRead_sameButBus _ (inPageOf s.pc (s.pc + sext16 off)))
    have e : branchOp true off s =
        ({ (s.dummyRead s.pc).dummyRead (inPageOf s.pc (s.pc + sext16 off)) with pc := s.pc + sext16 off } : State).finish
          4 := if_pos hc
    rw [e, if_pos hc, hc]
    refine ⟨?_, Written.of_mem hd2.mem, ?_, ?_⟩
    · obtain ⟨_, _, _, hd2'⟩ := hd2
      rw [hd2']; rfl
    · exact finish_charged 4 false hd2.cycles hd2.cfg (by simp)
    · have acc := (dummyRead_accessed s s.pc).trans (dummyRead_accessed (s.dummyRead s.pc) (inPageOf s.pc (s.pc + sext16 off)))
      rw [dummies_congr hd.cfg] at acc
      refine Accessed.of_trace (t := (s.dummyRead s.pc).dummyRead (inPageOf s.pc (s.pc + sext16 off))) ?_ rfl
      unfold State.dummies at acc ⊢
      by_cases hd' : s.cfg.dummyAccesses = true <;> simpa [hd'] using acc
  · have e : branchOp true off s = ({ s.dummyRead s.pc with pc := s.pc + sext16 off } : State).finish 3 := if_neg hc
    rw [e, if_neg hc, Bool.eq_false_iff.mpr hc]
    refine ⟨?_, Written.of_mem hd.mem, ?_, ?_⟩
    · obtain ⟨_, _, _, hd'⟩ := hd
      rw [hd']; rfl
    · exact finish_charged 3 false hd.cycles hd.cfg (by simp)
    · exact (dummyRead_accessed s s.pc).of_trace rfl

end Sys2Proof.Machine
end

