-- ==== Sys2Proof/Laws/Stack.lean ====
section
/-! SUPPORT. What the stack operations, exception entry and the returns do, said once (10_state.md R25, 45_control.md R201
to R204, 60_exceptions.md R274). -/

namespace Sys2Proof.Machine

open Sys2Proof

/-! ## Inside a step -/

/-- Inside a step: the cells `ws` were written, the accesses `l` made, and the account of the step is untouched. -/
structure Moves (s t : State) (ws : List Host.Cell) (l : List Access1) : Prop where
  written : Written s t ws
  accessed : Accessed s t l
  cycles : t.cycles = s.cycles
  dmaWritten : t.dmaWritten = s.dmaWritten
  cfg : t.cfg = s.cfg

theorem Moves.refl (s : State) : Moves s s [] [] := ⟨Written.refl s, Accessed.refl s, rfl, rfl, rfl⟩

theorem Moves.trans {s t u : State} {ws ws' : List Host.Cell} {l l' : List Access1} (h : Moves s t ws l)
    (h' : Moves t u ws' l') : Moves s u (ws' ++ ws) (l ++ l') :=
  ⟨h.written.trans h'.written, h.accessed.trans h'.accessed, h'.cycles.trans h.cycles,
    h'.dmaWritten.trans h.dmaWritten, h'.cfg.trans h.cfg⟩

/-- The account of a step reads five fields alone. -/
theorem Moves.congr {s t t' : State} {ws : List Host.Cell} {l : List Access1} (h : Moves s t ws l) (hm : t'.mem = t.mem)
    (ht : t'.trace = t.trace) (hc : t'.cycles = t.cycles) (hd : t'.dmaWritten = t.dmaWritten) (hf : t'.cfg = t.cfg) :
    Moves s t' ws l :=
  ⟨h.written.congr rfl hm, h.accessed.of_trace ht, hc.trans h.cycles, hd.trans h.dmaWritten, hf.trans h.cfg⟩

theorem SameButBus.moves {s t : State} {l : List Access1} (h : SameButBus s t) (ha : Accessed s t l) : Moves s t [] l :=
  ⟨Written.of_mem h.mem, ha, h.cycles, h.dmaWritten, h.cfg⟩

/-- The end of a step makes a `WholeStep` of what happened inside it. -/
theorem Moves.whole {s t u : State} {ws : List Host.Cell} {l : List Access1} (h : Moves s t ws l) (cost : Nat)
    (hu : t.cpu = u.cpu) : WholeStep s (t.finish cost) cost u ws l :=
  ⟨hu, h.written, finish_charged cost false h.cycles h.cfg (by rw [h.dmaWritten, Bool.or_false]), h.accessed⟩

theorem dummyRead_moves (s : State) (a : Addr) : Moves s (s.dummyRead a) [] (s.dummies [(.read, a)]) :=
  (dummyRead_sameButBus s a).moves (dummyRead_accessed s a)

theorem busRead_moves (s : State) (a : Addr) : Moves s (s.busRead a) [] [(.read, a)] :=
  (busRead_sameButBus s a).moves (busRead_accessed s a)

theorem dummies_append (s : State) (l l' : List Access1) : s.dummies l ++ s.dummies l' = s.dummies (l ++ l') := by
  unfold State.dummies; split <;> rfl

/-- Two dummy reads, one after the other. -/
theorem dummyRead2_moves (s : State) (a b : Addr) :
    Moves s ((s.dummyRead a).dummyRead b) [] (s.dummies [(.read, a), (.read, b)]) := by
  have h := (dummyRead_moves s a).trans (dummyRead_moves _ b)
  rw [dummies_congr (dummyRead_sameButBus s a).cfg, dummies_append] at h
  exact h

/-! ## Push and pull -/

theorem storeCells_stack (sp v : Byte) : storeCells (stackSlot sp) v = [(stackCell sp, v)] := by
  have hb := sp.isLt
  unfold storeCells
  rw [stackSlot_toNat, if_pos (by unfold stackCell; omega), Nat.mod_eq_of_lt (by unfold stackCell; omega)]

theorem noteWrite_stack (s : State) (sp : Byte) : s.noteWrite (stackSlot sp) = s := by
  have hb := sp.isLt
  exact noteWrite_of_lt s (by rw [stackSlot_toNat]; unfold stackCell; omega)

theorem stackSlot_ne_dma (sp : Byte) : (stackSlot sp == 0x4014) = false := by
  have hb := sp.isLt
  have h := stackSlot_toNat sp
  rw [beq_eq_false_iff_ne]
  intro e
  rw [e] at h
  unfold stackCell at h
  simp at h
  omega

/-- `Push(v)` writes the slot and decrements S; nothing else changes but the bus side. -/
theorem push_moves (s : State) (v : Byte) :
    Moves s (s.push v) [(stackCell s.sp, v)] [(.write, stackSlot s.sp)] := by
  refine ⟨?_, busWrite_accessed s (stackSlot s.sp) v, rfl, ?_, rfl⟩
  · rw [← storeCells_stack]; exact (busWrite_written s (stackSlot s.sp) v).congr rfl rfl
  · show (s.dmaWritten || stackSlot s.sp == 0x4014) = s.dmaWritten
    rw [stackSlot_ne_dma, Bool.or_false]

theorem push_cpu (s : State) (v : Byte) : (s.push v).cpu = ({ s with sp := s.sp - 1 } : State).cpu := by
  have h := busWrite_cpu s (stackSlot s.sp) v
  rw [noteWrite_stack] at h
  rw [cpu_eq_iff] at h ⊢
  exact ⟨h.1, h.2.1, h.2.2.1, rfl, h.2.2.2.2⟩

theorem push_sp (s : State) (v : Byte) : (s.push v).sp = s.sp - 1 := rfl
theorem push_pc (s : State) (v : Byte) : (s.push v).pc = s.pc := rfl
theorem push_p (s : State) (v : Byte) : (s.push v).p = s.p := rfl

/-- The stack page is RAM, so the byte pulled is the byte the RAM holds. -/
theorem pulled_eq (s : State) : s.pulled = s.mem.ram (stackCell (s.sp + 1)) := busByte_stack s (s.sp + 1)

theorem pull_moves (s : State) : Moves s s.pull [] [(.read, stackSlot (s.sp + 1))] :=
  (busRead_moves s (stackSlot (s.sp + 1))).congr rfl rfl rfl rfl rfl

theorem pull_cpu (s : State) : s.pull.cpu = ({ s with sp := s.sp + 1 } : State).cpu := rfl
theorem pull_mem (s : State) : s.pull.mem = s.mem := rfl
theorem pull_sp (s : State) : s.pull.sp = s.sp + 1 := rfl

/-- Both bytes of PC, the high one at the higher address (20_memory.md R60). -/
theorem pushPc_moves (s : State) :
    Moves s s.pushPc [(stackCell (s.sp - 1), loByte s.pc), (stackCell s.sp, hiByte s.pc)]
      [(.write, stackSlot s.sp), (.write, stackSlot (s.sp - 1))] :=
  (push_moves s (hiByte s.pc)).trans (push_moves _ (loByte s.pc))

theorem sub_one_twice (sp : Byte) : sp - 1 - 1 = sp - 2 := by bv_omega
theorem sub_two_one (sp : Byte) : sp - 2 - 1 = sp - 3 := by bv_omega
theorem add_one_twice (sp : Byte) : sp + 1 + 1 = sp + 2 := by bv_omega
theorem add_one_thrice (sp : Byte) : sp + 1 + 1 + 1 = sp + 3 := by bv_omega

theorem cpu_withSp {s t : State} (h : t.cpu = s.cpu) (sp : Byte) :
    ({ t with sp := sp } : State).cpu = ({ s with sp := sp } : State).cpu := by
  rw [cpu_eq_iff] at h ⊢
  exact ⟨h.1, h.2.1, h.2.2.1, rfl, h.2.2.2.2⟩

theorem pushPc_cpu (s : State) : s.pushPc.cpu = ({ s with sp := s.sp - 2 } : State).cpu := by
  have h1 := push_cpu s (hiByte s.pc)
  have h2 := push_cpu (s.push (hiByte s.pc)) (loByte s.pc)
  unfold State.pushPc
  rw [h2, push_sp, sub_one_twice]
  exact cpu_withSp h1 (s.sp - 2)

/-- PHA and PHP (42_transfer_stack.md R136, R137). -/
theorem pushOp_spec (cost : Nat) (v : Byte) (s : State) :
    WholeStep s (pushOp cost v s) cost { s with sp := s.sp - 1 } [(stackCell s.sp, v)]
      (s.dummies [(.read, s.pc)] ++ [(.write, stackSlot s.sp)]) := by
  have hd := dummyRead_sameButBus s s.pc
  have m := (dummyRead_moves s s.pc).trans (push_moves (s.dummyRead s.pc) v)
  rw [hd.sp] at m
  refine m.whole cost ?_
  rw [push_cpu, hd.sp]
  exact cpu_withSp hd.cpu _

/-! ## Exception entry -/

/-- The vector's two bytes through the bus. -/
theorem jumpThrough_moves (s : State) (vec : Addr) :
    Moves s (s.jumpThrough vec) [] [(.read, vec), (.read, vec + 1)] :=
  ((busRead_moves s vec).trans (busRead_moves _ (vec + 1))).congr rfl rfl rfl rfl rfl

/-- Writes to RAM leave the bytes above it as they are, as long as they cannot switch banks. -/
theorem heldByte_above {s t : State} {ws : List Host.Cell} (a : Addr) (h : Written s t ws)
    (hw : ∀ c ∈ ws, c.1 < 0x8000) (hr : t.romSwitched = s.romSwitched) (hc : t.cfg = s.cfg) (ha : 0x8000 ≤ a.toNat) :
    t.heldByte a = s.heldByte a := by
  have : ws.lookup a.toNat = none := by
    rw [List.lookup_eq_none_iff]
    intro c hc
    have := hw c hc
    simp only [bne_iff_ne, ne_eq]
    omega
  have hm := h a.toNat
  rw [this, Option.none_or] at hm
  have h2 : ¬ a.toNat < 0x2000 := by omega
  unfold State.heldByte
  simp only [h2, if_false, hr, hc, hm]

/-- Where control goes through a vector, after writes to the stack. -/
theorem jumpThrough_spec {s u t : State} {ws : List Host.Cell} (vec : Addr) (h : Written s u ws)
    (hw : ∀ c ∈ ws, c.1 < 0x8000) (hr : u.romSwitched = s.romSwitched) (hc : u.cfg = s.cfg) (ha : 0x8000 ≤ vec.toNat)
    (ha' : 0x8000 ≤ (vec + 1).toNat) (hpc : t.pc = (u.jumpThrough vec).pc) (ht : t.trace = (u.jumpThrough vec).trace) :
    JumpedThrough s t vec := by
  refine ⟨u.busByte vec, (u.busRead vec).busByte (vec + 1), hpc, by rw [ht]; rfl, fun b hb => ?_, fun b hb => ?_⟩
  · exact busByte_of_heldByte ((heldByte_above vec h hw hr hc ha).trans hb)
  · refine busByte_of_heldByte ?_
    rw [(busRead_sameButBus u vec).heldByte]
    exact (heldByte_above (vec + 1) h hw hr hc ha').trans hb

theorem stackCell_lt (sp : Byte) : stackCell sp < 0x8000 := by
  have hb := sp.isLt; unfold stackCell; omega

/-- Exception entry from a state `s0` that is `s` but for the bus side and PC. -/
theorem enterException_spec {s s0 : State} {l : List Access1} (ret : Addr) (brk i : Bool) (vec : Addr)
    (ack : State → State) (nmi' : Bool) (h0 : Moves s s0 [] l) (hcpu : s0.cpu = ({ s with pc := ret } : State).cpu)
    (ha : 0x8000 ≤ vec.toNat) (ha' : 0x8000 ≤ (vec + 1).toNat)
    (hack : ∀ u, ack u = { u with nmiPending := (ack u).nmiPending }) (hn : ∀ u, u.nmiPending = s.nmiPending →
      (ack u).nmiPending = nmi') :
    EntryStep s ((ack (s0.enterException brk i vec)).finish 7) ret brk { s.p with i := i } nmi' vec l := by
  obtain ⟨_, _, _, e4, e5, e6, e7, _, _, e10, _, e12⟩ := (cpu_eq_iff _ _).mp hcpu
  simp only at e4 e5 e6 e7 e10 e12
  have mp := (h0.trans (pushPc_moves s0)).trans (push_moves s0.pushPc (packP brk s.p))
  have hsp : s0.pushPc.sp = s.sp - 2 := by rw [show s0.pushPc.sp = s0.sp - 1 - 1 from rfl, sub_one_twice, e4]
  rw [hsp, e4, e5] at mp
  set u := s0.pushPc.push (packP brk s.p) with hu
  have hE : s0.enterException brk i vec = (u.setI i).jumpThrough vec := by rw [hu, ← e6]; rfl
  have mp' := mp.congr (t' := u.setI i) rfl rfl rfl rfl rfl
  have mj := mp'.trans (jumpThrough_moves (u.setI i) vec)
  have hucpu : u.cpu = ({ s with pc := ret, sp := s.sp - 3 } : State).cpu := by
    rw [hu, push_cpu, hsp, sub_two_one]
    exact cpu_withSp (pushPc_cpu s0) _ |>.trans (cpu_withSp hcpu _)
  obtain ⟨f1, f2, f3, f4, f5, f6, f7, f8, f9, f10, f11, f12⟩ := (cpu_eq_iff _ _).mp hucpu
  simp only at f1 f2 f3 f4 f5 f6 f7 f8 f9 f10 f11 f12
  rw [hE]
  set v := (u.setI i).jumpThrough vec with hv
  have hk := hack v
  have hpc : ((ack v).finish 7).pc = v.pc := by rw [State.finish_pc, hk]
  refine ⟨jumpThrough_spec vec mp'.written ?_ f10 f12 ha ha' hpc (by rw [State.finish_trace, hk]), ?_⟩
  · intro c hc
    simp at hc
    rcases hc with rfl | rfl | rfl <;> exact stackCell_lt _
  · have mj' := mj.congr (t' := ack v) (by rw [hk]) (by rw [hk]) (by rw [hk]) (by rw [hk]) (by rw [hk])
    have hn' : (ack v).nmiPending = nmi' := hn v f7
    have hcpu' : (ack v).cpu =
        ({ s with sp := s.sp - 3, pc := v.pc, p := { s.p with i := i }, nmiPending := nmi' } : State).cpu := by
      rw [cpu_eq_iff, hn', hk]
      refine ⟨f1, f2, f3, f4, rfl, ?_, rfl, f8, f9, f10, f11, f12⟩
      show ({ u.p with i := i } : Flags) = { s.p with i := i }
      rw [f6]
    have hw := mj'.whole 7 hcpu'
    rw [hpc]
    simpa using hw

/-- BRK skips its padding byte (45_control.md R204). -/
theorem skipPadding_moves (s : State) : Moves s s.skipPadding [] (s.dummies [(.read, s.pc)]) :=
  (dummyRead_moves s s.pc).congr rfl rfl rfl rfl rfl

theorem skipPadding_cpu (s : State) : s.skipPadding.cpu = ({ s with pc := s.pc + 1 } : State).cpu := by
  obtain ⟨_, _, _, h⟩ := dummyRead_sameButBus s s.pc
  unfold State.skipPadding
  rw [h]; rfl

/-- `Dispatch(kind)` (60_exceptions.md R274). -/
theorem dispatch_spec (k : Interrupt) (s : State) :
    EntryStep s (s.dispatch k) s.pc false { s.p with i := k.entryI s.cfg }
      (match k with | .nmi => false | .irq => s.nmiPending) k.vector (s.dummies [(.read, s.pc), (.read, s.pc)]) := by
  have h0 : Moves s ((s.dummyRead s.pc).dummyRead s.pc) [] (s.dummies [(.read, s.pc), (.read, s.pc)]) :=
    dummyRead2_moves s s.pc s.pc
  have hcpu : ((s.dummyRead s.pc).dummyRead s.pc).cpu = ({ s with pc := s.pc } : State).cpu :=
    ((dummyRead_sameButBus s s.pc).trans (dummyRead_sameButBus _ s.pc)).cpu
  cases k with
  | nmi =>
    refine enterException_spec s.pc false (Interrupt.nmi.entryI s.cfg) nmiVector (fun u => u.acknowledge .nmi) false h0 hcpu
      ?_ ?_ ?_ ?_
    · decide
    · decide
    · exact fun _ => rfl
    · exact fun _ _ => rfl
  | irq =>
    refine enterException_spec s.pc false true irqVector (fun u => u.acknowledge .irq) s.nmiPending h0 hcpu ?_ ?_ ?_ ?_
    · decide
    · decide
    · exact fun _ => rfl
    · exact fun _ h => h

/-! ## Returns -/

/-- The dummy reads before a pull (40_addressing.md R116). -/
theorem beforePull_sameButBus (s : State) : SameButBus s s.beforePull :=
  (dummyRead_sameButBus s s.pc).trans (dummyRead_sameButBus _ _)

theorem beforePull_moves (s : State) :
    Moves s s.beforePull [] (s.dummies [(.read, s.pc), (.read, stackSlot s.sp)]) := dummyRead2_moves s s.pc (stackSlot s.sp)

theorem beforeReturn_sameButBus (s : State) : SameButBus s s.beforeReturn :=
  (dummyRead_sameButBus s s.pc).trans (dummyRead_sameButBus _ _)

theorem beforeReturn_moves (s : State) :
    Moves s s.beforeReturn [] (s.dummies [(.read, s.pc), (.read, stackSlot s.sp)]) := dummyRead2_moves s s.pc (stackSlot s.sp)

theorem pull2_moves (s : State) :
    Moves s s.pull.pull [] [(.read, stackSlot (s.sp + 1)), (.read, stackSlot (s.sp + 2))] := by
  have h := (pull_moves s).trans (pull_moves s.pull)
  rwa [pull_sp, add_one_twice] at h

/-- The link, from RAM, low byte first (R202). -/
theorem pulledLink_eq (s : State) :
    s.pulledLink = word (s.mem.ram (stackCell (s.sp + 2))) (s.mem.ram (stackCell (s.sp + 1))) := by
  unfold State.pulledLink
  rw [pulled_eq, pulled_eq, pull_mem, pull_sp, add_one_twice]

/-- The status byte and PC, from RAM (R203). -/
theorem returnFromException_cpu (s : State) : s.returnFromException.cpu =
    ({ s with sp := s.sp + 3
              pc := word (s.mem.ram (stackCell (s.sp + 3))) (s.mem.ram (stackCell (s.sp + 2)))
              p := unpackP (s.mem.ram (stackCell (s.sp + 1))) } : State).cpu := by
  have h1 : s.pull.pull.pulled = s.mem.ram (stackCell (s.sp + 3)) := by
    rw [pulled_eq]; show s.mem.ram (stackCell (s.sp + 1 + 1 + 1)) = _; rw [add_one_thrice]
  have h2 : s.pull.pulled = s.mem.ram (stackCell (s.sp + 2)) := by
    rw [pulled_eq, pull_mem, pull_sp, add_one_twice]
  have h3 : s.pull.pull.pull.cpu = ({ s with sp := s.sp + 3 } : State).cpu := by
    rw [← add_one_thrice]
    exact (pull_cpu s.pull.pull).trans (cpu_withSp ((pull_cpu s.pull).trans (cpu_withSp (pull_cpu s) _)) _)
  unfold State.returnFromException
  rw [h1, h2, pulled_eq]
  rw [cpu_eq_iff] at h3 ⊢
  obtain ⟨e1, e2, e3, e4, _, _, e7, e8, e9, e10, e11, e12⟩ := h3
  exact ⟨e1, e2, e3, e4, rfl, rfl, e7, e8, e9, e10, e11, e12⟩

theorem returnFromException_moves (s : State) : Moves s s.returnFromException []
    [(.read, stackSlot (s.sp + 1)), (.read, stackSlot (s.sp + 2)), (.read, stackSlot (s.sp + 3))] := by
  have h := (pull2_moves s).trans (pull_moves s.pull.pull)
  rw [show s.pull.pull.sp + 1 = s.sp + 1 + 1 + 1 from rfl, add_one_thrice] at h
  exact h.congr rfl rfl rfl rfl rfl

end Sys2Proof.Machine
end

