-- ==== Sys2Proof/Laws/Invariant.lean ====
section
/-! SUPPORT. What every part of a step keeps: the canonical form of memory, the program ROM, the data bus latch, the
record of accesses, the parameters. And the shapes an instruction's step can have, said once for all instructions. -/

namespace Sys2Proof.Machine

open Sys2Proof

/-- What every part of a step keeps. -/
structure Keeps (s t : State) : Prop where
  wf : Memory.wf s.mem = true → Memory.wf t.mem = true
  rom : ∀ k, 0x8000 ≤ k → t.mem.read k = s.mem.read k
  latches : Latches s t
  cfg : t.cfg = s.cfg

theorem Keeps.refl (s : State) : Keeps s s := ⟨id, fun _ _ => rfl, Latches.refl s, rfl⟩

theorem Keeps.trans {s t u : State} (h : Keeps s t) (h' : Keeps t u) : Keeps s u :=
  ⟨h'.wf ∘ h.wf, fun k hk => (h'.rom k hk).trans (h.rom k hk), h.latches.trans h'.latches, h'.cfg.trans h.cfg⟩

theorem Keeps.congr {s t t' : State} (h : Keeps s t) (hm : t'.mem = t.mem) (ht : t'.trace = t.trace)
    (hd : t'.dataBus = t.dataBus) (hf : t'.cfg = t.cfg) : Keeps s t' := by
  obtain ⟨ev, e1, e2⟩ := h.latches
  exact ⟨hm ▸ h.wf, hm ▸ h.rom, ⟨ev, ht.trans e1, hd.trans e2⟩, hf.trans h.cfg⟩

/-- The record of accesses only grows (20_memory.md R55). -/
theorem Keeps.trace {s t : State} (h : Keeps s t) : ∃ ev, t.trace = ev ++ s.trace := by
  obtain ⟨ev, e1, _⟩ := h.latches; exact ⟨ev, e1⟩

/-- The data bus stays latched (R58). -/
theorem Latches.latched {s t : State} (h : Latches s t) (hs : s.latched) : t.latched := by
  obtain ⟨ev, e1, e2⟩ := h
  intro e he
  rw [e1] at he
  rw [e2]
  cases ev with
  | nil => exact hs e he
  | cons e' ev => simp only [List.cons_append, List.head?_cons, Option.some.injEq] at he; subst he; rfl

theorem SameButBus.keeps {s t : State} (h : SameButBus s t) (hl : Latches s t) : Keeps s t :=
  ⟨fun hw => by rw [h.mem]; exact hw, fun k _ => by rw [h.mem], hl, h.cfg⟩

theorem busRead_keeps (s : State) (a : Addr) : Keeps s (s.busRead a) :=
  (busRead_sameButBus s a).keeps (busRead_latches s a)

theorem busRead2_keeps (s : State) (a b : Addr) : Keeps s (s.busRead2 a b) :=
  (busRead_keeps s a).trans (busRead_keeps _ b)

theorem dummyRead_keeps (s : State) (a : Addr) : Keeps s (s.dummyRead a) :=
  (dummyRead_sameButBus s a).keeps (dummyRead_latches s a)

theorem busWrite_keeps (s : State) (a : Addr) (v : Byte) : Keeps s (s.busWrite a v) := by
  refine ⟨fun hw => ?_, fun k hk => ?_, busWrite_latches s a v, rfl⟩
  · rw [State.busWrite_mem]
    split
    · exact hw
    · exact Memory.write_wf hw (Memory.holds_ram (Nat.mod_lt _ (by decide)))
  · have h := busWrite_written s a v k
    rw [h]
    unfold storeCells
    split
    · have h1 : a.toNat % 0x800 < 0x800 := Nat.mod_lt _ (by decide)
      have h2 : (k == a.toNat % 0x800) = false := by simp only [beq_eq_false_iff_ne, ne_eq]; omega
      simp [List.lookup, h2]
    · rfl

theorem dummyWrite_keeps (s : State) (a : Addr) (v : Byte) : Keeps s (s.dummyWrite a v) := by
  unfold State.dummyWrite
  split
  · exact busWrite_keeps s a v
  · exact Keeps.refl s

theorem push_keeps (s : State) (v : Byte) : Keeps s (s.push v) := (busWrite_keeps s _ v).congr rfl rfl rfl rfl

theorem pull_keeps (s : State) : Keeps s s.pull := (busRead_keeps s _).congr rfl rfl rfl rfl

theorem pushPc_keeps (s : State) : Keeps s s.pushPc := (push_keeps s _).trans (push_keeps _ _)

theorem jumpThrough_keeps (s : State) (vec : Addr) : Keeps s (s.jumpThrough vec) :=
  (busRead2_keeps s vec (vec + 1)).congr rfl rfl rfl rfl

theorem enterException_keeps (s : State) (brk i : Bool) (vec : Addr) : Keeps s (s.enterException brk i vec) :=
  (((pushPc_keeps s).trans (push_keeps _ (packP brk s.p))).congr (t' := (s.pushPc.push (packP brk s.p)).setI i)
    rfl rfl rfl rfl).trans (jumpThrough_keeps _ vec)

theorem fetch8_keeps (s : State) : Keeps s s.fetch8 := (busRead_keeps s s.pc).congr rfl rfl rfl rfl

theorem fetchN_keeps (n : Nat) (s : State) : Keeps s (State.fetchN n s) := by
  induction n generalizing s with
  | zero => exact Keeps.refl s
  | succ n ih => exact (fetch8_keeps s).trans (ih s.fetch8)

theorem locate_keeps (cls : Access) (m : Mode) (s : State) : Keeps s (locate cls m s).st :=
  (locate_spec cls m s).2.1.keeps (locate_latches cls m s)

theorem loaded_keeps (o : Operand) (s : State) : Keeps s (o.loaded s) := by
  cases o with
  | acc => exact Keeps.refl s
  | imm v => exact Keeps.refl s
  | mem ea c => exact busRead_keeps s ea

theorem store_keeps (o : Operand) (v : Byte) (s : State) : Keeps s (o.store v s) := by
  cases o with
  | acc => exact (Keeps.refl s).congr rfl rfl rfl rfl
  | imm v => exact Keeps.refl s
  | mem ea c => exact busWrite_keeps s ea v

theorem writeBack_keeps (o : Operand) (v : Byte) (s : State) : Keeps s (o.writeBack v s) := by
  cases o with
  | acc => exact Keeps.refl s
  | imm v => exact Keeps.refl s
  | mem ea c => exact dummyWrite_keeps s ea v

theorem RegistersOnly.keeps {f : State → Byte → State} (hf : RegistersOnly f) {s t : State} (h : Keeps s t) (v : Byte) :
    Keeps s (f t v) := by
  obtain ⟨e1, e2, _, _, e5, e6, _⟩ := hf t v
  exact h.congr e1 e2 e6 e5

/-- The end of a step: what was kept, the counter within its width, no DMA write outstanding. -/
structure Closes (s t : State) : Prop extends Keeps s t where
  cycles : t.cycles < 2 ^ s.cfg.cycleWidth
  dmaWritten : t.dmaWritten = false

theorem Keeps.finish {s t : State} (h : Keeps s t) (cost : Nat) : Closes s (t.finish cost) :=
  ⟨h.congr rfl rfl rfl rfl, by rw [State.finish_cycles, h.cfg]; exact Nat.mod_lt _ (Nat.two_pow_pos _), rfl⟩

theorem Closes.legal {s t : State} (h : Closes s t) (hs : s.Legal) : t.Legal := by
  exact ⟨h.wf hs.1, by rw [h.cfg]; exact h.cycles, h.dmaWritten⟩

/-! ## The shapes of an instruction's step -/

/-- The steps an instruction can make: every meaning is one of these, whatever it does to registers and flags. -/
inductive Shape (s : State) : State → Prop
  | read (m : Mode) (cost : Nat) (f : State → Byte → State) (hf : RegistersOnly f) : Shape s (readOp m cost f s)
  | write (m : Mode) (cost : Nat) (v : Byte) : Shape s (writeOp m cost v s)
  | modify (m : Mode) (cost : Nat) (new : Byte → Byte) (g : State → Byte → Byte → State)
      (hg : ∀ r, RegistersOnly (fun t v => g t v r)) : Shape s (rmwOp m cost new g s)
  | implied (cost : Nat) (f : State → State) (hf : RegistersOnly (fun t _ => f t)) : Shape s (impliedOp cost f s)
  | branch (cond : Bool) (off : Byte) : Shape s (branchOp cond off s)
  | push (cost : Nat) (v : Byte) : Shape s (pushOp cost v s)
  | pla : Shape s ((({ s.beforePull.pull with a := s.beforePull.pulled } : State).setNZ s.beforePull.pulled).finish 4)
  | plp : Shape s (({ s.beforePull.pull with p := unpackP s.beforePull.pulled } : State).finish 4)
  | jmpAbs (w : Addr) : Shape s (({ s with pc := w } : State).finish 3)
  | jmpInd (w : Addr) :
      Shape s (({ s.busRead2 w (indirectHigh w) with pc := s.busWord w (indirectHigh w) } : State).finish 5)
  | jsr (w : Addr) : Shape s (({ s.pushLink.fetch8 with pc := word s.pushLink.fetched (loByte w) } : State).finish 6)
  | rts : Shape s (s.beforeReturn.returnToLink.finish 6)
  | rti : Shape s (s.beforeReturn.returnFromException.finish 6)
  | brk : Shape s ((s.skipPadding.enterException true true irqVector).finish 7)
  | noop (cost : Nat) : Shape s (s.finish cost)
  | jam : Shape s { s.dummyRead s.pc with halted := true, lastCost := none }

/-- An unofficial opcode that goes on is a no-op or runs its semantics (47_unofficial.md R232, R233). -/
theorem unofficial_next {op : Byte} {cost : Nat} {sem : State → State} {s t : State}
    (h : unofficial op cost sem s = .next t) :
    (s.cfg.policy = .nop ∧ t = s.finish cost) ∨ (s.cfg.policy = .semantic ∧ t = sem s) := by
  unfold unofficial at h
  cases hp : s.cfg.policy <;> rw [hp] at h
  · cases h
  · exact .inl ⟨rfl, (Host.Outcome.next.inj h).symm⟩
  · exact .inr ⟨rfl, (Host.Outcome.next.inj h).symm⟩

/-- An unstable opcode goes on as a no-op alone (R232, R233). -/
theorem unstable_next {op : Byte} {cost : Nat} {s t : State} (h : unstable op cost s = .next t) :
    s.cfg.policy = .nop ∧ t = s.finish cost := by
  unfold unstable at h
  cases hp : s.cfg.policy <;> rw [hp] at h
  · cases h
  · exact ⟨rfl, (Host.Outcome.next.inj h).symm⟩
  · cases h

/-- JAM goes on into the halted state alone (R254). -/
theorem jam_next {op : Byte} {s t : State} (h : jam op s = .next t) :
    s.cfg.policy = .semantic ∧ t = { s.dummyRead s.pc with halted := true, lastCost := none } := by
  unfold jam at h
  cases hp : s.cfg.policy <;> rw [hp] at h
  · cases h
  · cases h
  · exact ⟨rfl, (Host.Outcome.next.inj h).symm⟩

theorem unofficial_shape {op : Byte} {cost : Nat} {sem : State → State} {s t : State}
    (h : unofficial op cost sem s = .next t) (hs : Shape s (sem s)) : Shape s t := by
  obtain ⟨_, rfl⟩ | ⟨_, rfl⟩ := unofficial_next h
  · exact .noop cost
  · exact hs

theorem unstable_shape {op : Byte} {cost : Nat} {s t : State} (h : unstable op cost s = .next t) : Shape s t := by
  obtain ⟨_, rfl⟩ := unstable_next h
  exact .noop cost

theorem jam_shape {op : Byte} {s t : State} (h : jam op s = .next t) : Shape s t := by
  obtain ⟨_, rfl⟩ := jam_next h
  exact .jam

/-- Every shape but JAM's ends its step; JAM keeps the account as it was. -/
theorem Shape.closes {s t : State} (h : Shape s t) :
    Closes s t ∨ (Keeps s t ∧ t.cycles = s.cycles ∧ t.dmaWritten = s.dmaWritten) := by
  cases h with
  | read m cost f hf => exact .inl ((hf.keeps ((locate_keeps .read m s).trans (loaded_keeps _ _)) _).finish _)
  | write m cost v => exact .inl (((locate_keeps .write m s).trans (store_keeps _ v _)).finish cost)
  | modify m cost new g hg =>
    refine .inl ((RegistersOnly.keeps (hg _) ?_ _).finish cost)
    exact (((locate_keeps .rmw m s).trans (loaded_keeps _ _)).trans (writeBack_keeps _ _ _)).trans (store_keeps _ _ _)
  | implied cost f hf => exact .inl ((hf.keeps (dummyRead_keeps s s.pc) 0).finish cost)
  | branch cond off =>
    cases cond with
    | false => exact .inl ((Keeps.refl s).finish 2)
    | true =>
      unfold branchOp takeBranch
      simp only [if_true]
      split
      · exact .inl ((((dummyRead_keeps s s.pc).trans (dummyRead_keeps _ _)).congr (by rfl) (by rfl) (by rfl) (by rfl)).finish 4)
      · exact .inl (((dummyRead_keeps s s.pc).congr (by rfl) (by rfl) (by rfl) (by rfl)).finish 3)
  | push cost v => exact .inl (((dummyRead_keeps s s.pc).trans (push_keeps _ v)).finish cost)
  | pla =>
    exact .inl (((((dummyRead_keeps s s.pc).trans (dummyRead_keeps _ _)).trans (pull_keeps _)).congr (by rfl) (by rfl) (by rfl) (by rfl)).finish 4)
  | plp =>
    exact .inl (((((dummyRead_keeps s s.pc).trans (dummyRead_keeps _ _)).trans (pull_keeps _)).congr (by rfl) (by rfl) (by rfl) (by rfl)).finish 4)
  | jmpAbs w => exact .inl (((Keeps.refl s).congr (by rfl) (by rfl) (by rfl) (by rfl)).finish 3)
  | jmpInd w => exact .inl (((busRead2_keeps s _ _).congr (by rfl) (by rfl) (by rfl) (by rfl)).finish 5)
  | jsr w =>
    exact .inl (((((dummyRead_keeps s _).trans (pushPc_keeps _)).trans (fetch8_keeps _)).congr (by rfl) (by rfl) (by rfl) (by rfl)).finish 6)
  | rts =>
    have h := ((dummyRead_keeps s s.pc).trans (dummyRead_keeps _ (stackSlot s.sp))).trans
      ((pull_keeps _).trans (pull_keeps _))
    exact .inl (((h.trans (dummyRead_keeps _ _)).congr (by rfl) (by rfl) (by rfl) (by rfl)).finish 6)
  | rti =>
    have h := ((dummyRead_keeps s s.pc).trans (dummyRead_keeps _ (stackSlot s.sp))).trans
      (((pull_keeps _).trans (pull_keeps _)).trans (pull_keeps _))
    exact .inl ((h.congr (by rfl) (by rfl) (by rfl) (by rfl)).finish 6)
  | brk =>
    have h : Keeps s s.skipPadding := (dummyRead_keeps s s.pc).congr rfl rfl rfl rfl
    exact .inl ((h.trans (enterException_keeps _ true true irqVector)).finish 7)
  | noop cost => exact .inl ((Keeps.refl s).finish cost)
  | jam =>
    have h := dummyRead_sameButBus s s.pc
    exact .inr ⟨(dummyRead_keeps s s.pc).congr rfl rfl rfl rfl, h.cycles, h.dmaWritten⟩

end Sys2Proof.Machine
end

