-- ==== Sys2Proof/Laws/ExecShape.lean ====
section
/-! SUPPORT. Every instruction's step has one of the shapes of Laws/Invariant.lean. -/

namespace Sys2Proof.Machine

open Sys2Proof

theorem next_shape {s t u : State} (h : (Host.Outcome.next u : Result) = .next t) (hs : Shape s u) : Shape s t := by
  cases h; exact hs

/-- An instruction that goes on makes one of the shapes' steps. -/
theorem exec_shape {i : Instr} {s t : State} (h : exec i s = .next t) : Shape s t := by
  cases i with
  | brk => exact next_shape h .brk
  | oraIndX b => exact next_shape h (.read _ _ _ (fun _ _ => ⟨rfl, rfl, rfl, rfl, rfl, rfl, rfl⟩))
  | jam02 => exact jam_shape h
  | sloIndX b => exact unofficial_shape h (.modify _ _ _ _ (fun _ _ _ => ⟨rfl, rfl, rfl, rfl, rfl, rfl, rfl⟩))
  | nop04 b => exact unofficial_shape h (.read _ _ _ (fun _ _ => ⟨rfl, rfl, rfl, rfl, rfl, rfl, rfl⟩))
  | oraZp b => exact next_shape h (.read _ _ _ (fun _ _ => ⟨rfl, rfl, rfl, rfl, rfl, rfl, rfl⟩))
  | aslZp b => exact next_shape h (.modify _ _ _ _ (fun _ _ _ => ⟨rfl, rfl, rfl, rfl, rfl, rfl, rfl⟩))
  | sloZp b => exact unofficial_shape h (.modify _ _ _ _ (fun _ _ _ => ⟨rfl, rfl, rfl, rfl, rfl, rfl, rfl⟩))
  | php => exact next_shape h (.push _ _)
  | oraImm b => exact next_shape h (.read _ _ _ (fun _ _ => ⟨rfl, rfl, rfl, rfl, rfl, rfl, rfl⟩))
  | aslAcc => exact next_shape h (.modify _ _ _ _ (fun _ _ _ => ⟨rfl, rfl, rfl, rfl, rfl, rfl, rfl⟩))
  | anc0B b => exact unofficial_shape h (.read _ _ _ (fun _ _ => ⟨rfl, rfl, rfl, rfl, rfl, rfl, rfl⟩))
  | nop0C w => exact unofficial_shape h (.read _ _ _ (fun _ _ => ⟨rfl, rfl, rfl, rfl, rfl, rfl, rfl⟩))
  | oraAbs w => exact next_shape h (.read _ _ _ (fun _ _ => ⟨rfl, rfl, rfl, rfl, rfl, rfl, rfl⟩))
  | aslAbs w => exact next_shape h (.modify _ _ _ _ (fun _ _ _ => ⟨rfl, rfl, rfl, rfl, rfl, rfl, rfl⟩))
  | sloAbs w => exact unofficial_shape h (.modify _ _ _ _ (fun _ _ _ => ⟨rfl, rfl, rfl, rfl, rfl, rfl, rfl⟩))
  | bpl b => exact next_shape h (.branch _ _)
  | oraIndY b => exact next_shape h (.read _ _ _ (fun _ _ => ⟨rfl, rfl, rfl, rfl, rfl, rfl, rfl⟩))
  | jam12 => exact jam_shape h
  | sloIndY b => exact unofficial_shape h (.modify _ _ _ _ (fun _ _ _ => ⟨rfl, rfl, rfl, rfl, rfl, rfl, rfl⟩))
  | nop14 b => exact unofficial_shape h (.read _ _ _ (fun _ _ => ⟨rfl, rfl, rfl, rfl, rfl, rfl, rfl⟩))
  | oraZpX b => exact next_shape h (.read _ _ _ (fun _ _ => ⟨rfl, rfl, rfl, rfl, rfl, rfl, rfl⟩))
  | aslZpX b => exact next_shape h (.modify _ _ _ _ (fun _ _ _ => ⟨rfl, rfl, rfl, rfl, rfl, rfl, rfl⟩))
  | sloZpX b => exact unofficial_shape h (.modify _ _ _ _ (fun _ _ _ => ⟨rfl, rfl, rfl, rfl, rfl, rfl, rfl⟩))
  | clc => exact next_shape h (.implied _ _ (fun _ _ => ⟨rfl, rfl, rfl, rfl, rfl, rfl, rfl⟩))
  | oraAbsY w => exact next_shape h (.read _ _ _ (fun _ _ => ⟨rfl, rfl, rfl, rfl, rfl, rfl, rfl⟩))
  | nop1A => exact unofficial_shape h (.implied _ _ (fun _ _ => ⟨rfl, rfl, rfl, rfl, rfl, rfl, rfl⟩))
  | sloAbsY w => exact unofficial_shape h (.modify _ _ _ _ (fun _ _ _ => ⟨rfl, rfl, rfl, rfl, rfl, rfl, rfl⟩))
  | nop1C w => exact unofficial_shape h (.read _ _ _ (fun _ _ => ⟨rfl, rfl, rfl, rfl, rfl, rfl, rfl⟩))
  | oraAbsX w => exact next_shape h (.read _ _ _ (fun _ _ => ⟨rfl, rfl, rfl, rfl, rfl, rfl, rfl⟩))
  | aslAbsX w => exact next_shape h (.modify _ _ _ _ (fun _ _ _ => ⟨rfl, rfl, rfl, rfl, rfl, rfl, rfl⟩))
  | sloAbsX w => exact unofficial_shape h (.modify _ _ _ _ (fun _ _ _ => ⟨rfl, rfl, rfl, rfl, rfl, rfl, rfl⟩))
  | jsr w => exact next_shape h (.jsr _)
  | andIndX b => exact next_shape h (.read _ _ _ (fun _ _ => ⟨rfl, rfl, rfl, rfl, rfl, rfl, rfl⟩))
  | jam22 => exact jam_shape h
  | rlaIndX b => exact unofficial_shape h (.modify _ _ _ _ (fun _ _ _ => ⟨rfl, rfl, rfl, rfl, rfl, rfl, rfl⟩))
  | bitZp b => exact next_shape h (.read _ _ _ (fun _ _ => ⟨rfl, rfl, rfl, rfl, rfl, rfl, rfl⟩))
  | andZp b => exact next_shape h (.read _ _ _ (fun _ _ => ⟨rfl, rfl, rfl, rfl, rfl, rfl, rfl⟩))
  | rolZp b => exact next_shape h (.modify _ _ _ _ (fun _ _ _ => ⟨rfl, rfl, rfl, rfl, rfl, rfl, rfl⟩))
  | rlaZp b => exact unofficial_shape h (.modify _ _ _ _ (fun _ _ _ => ⟨rfl, rfl, rfl, rfl, rfl, rfl, rfl⟩))
  | plp => exact next_shape h .plp
  | andImm b => exact next_shape h (.read _ _ _ (fun _ _ => ⟨rfl, rfl, rfl, rfl, rfl, rfl, rfl⟩))
  | rolAcc => exact next_shape h (.modify _ _ _ _ (fun _ _ _ => ⟨rfl, rfl, rfl, rfl, rfl, rfl, rfl⟩))
  | anc2B b => exact unofficial_shape h (.read _ _ _ (fun _ _ => ⟨rfl, rfl, rfl, rfl, rfl, rfl, rfl⟩))
  | bitAbs w => exact next_shape h (.read _ _ _ (fun _ _ => ⟨rfl, rfl, rfl, rfl, rfl, rfl, rfl⟩))
  | andAbs w => exact next_shape h (.read _ _ _ (fun _ _ => ⟨rfl, rfl, rfl, rfl, rfl, rfl, rfl⟩))
  | rolAbs w => exact next_shape h (.modify _ _ _ _ (fun _ _ _ => ⟨rfl, rfl, rfl, rfl, rfl, rfl, rfl⟩))
  | rlaAbs w => exact unofficial_shape h (.modify _ _ _ _ (fun _ _ _ => ⟨rfl, rfl, rfl, rfl, rfl, rfl, rfl⟩))
  | bmi b => exact next_shape h (.branch _ _)
  | andIndY b => exact next_shape h (.read _ _ _ (fun _ _ => ⟨rfl, rfl, rfl, rfl, rfl, rfl, rfl⟩))
  | jam32 => exact jam_shape h
  | rlaIndY b => exact unofficial_shape h (.modify _ _ _ _ (fun _ _ _ => ⟨rfl, rfl, rfl, rfl, rfl, rfl, rfl⟩))
  | nop34 b => exact unofficial_shape h (.read _ _ _ (fun _ _ => ⟨rfl, rfl, rfl, rfl, rfl, rfl, rfl⟩))
  | andZpX b => exact next_shape h (.read _ _ _ (fun _ _ => ⟨rfl, rfl, rfl, rfl, rfl, rfl, rfl⟩))
  | rolZpX b => exact next_shape h (.modify _ _ _ _ (fun _ _ _ => ⟨rfl, rfl, rfl, rfl, rfl, rfl, rfl⟩))
  | rlaZpX b => exact unofficial_shape h (.modify _ _ _ _ (fun _ _ _ => ⟨rfl, rfl, rfl, rfl, rfl, rfl, rfl⟩))
  | sec => exact next_shape h (.implied _ _ (fun _ _ => ⟨rfl, rfl, rfl, rfl, rfl, rfl, rfl⟩))
  | andAbsY w => exact next_shape h (.read _ _ _ (fun _ _ => ⟨rfl, rfl, rfl, rfl, rfl, rfl, rfl⟩))
  | nop3A => exact unofficial_shape h (.implied _ _ (fun _ _ => ⟨rfl, rfl, rfl, rfl, rfl, rfl, rfl⟩))
  | rlaAbsY w => exact unofficial_shape h (.modify _ _ _ _ (fun _ _ _ => ⟨rfl, rfl, rfl, rfl, rfl, rfl, rfl⟩))
  | nop3C w => exact unofficial_shape h (.read _ _ _ (fun _ _ => ⟨rfl, rfl, rfl, rfl, rfl, rfl, rfl⟩))
  | andAbsX w => exact next_shape h (.read _ _ _ (fun _ _ => ⟨rfl, rfl, rfl, rfl, rfl, rfl, rfl⟩))
  | rolAbsX w => exact next_shape h (.modify _ _ _ _ (fun _ _ _ => ⟨rfl, rfl, rfl, rfl, rfl, rfl, rfl⟩))
  | rlaAbsX w => exact unofficial_shape h (.modify _ _ _ _ (fun _ _ _ => ⟨rfl, rfl, rfl, rfl, rfl, rfl, rfl⟩))
  | rti => exact next_shape h .rti
  | eorIndX b => exact next_shape h (.read _ _ _ (fun _ _ => ⟨rfl, rfl, rfl, rfl, rfl, rfl, rfl⟩))
  | jam42 => exact jam_shape h
  | sreIndX b => exact unofficial_shape h (.modify _ _ _ _ (fun _ _ _ => ⟨rfl, rfl, rfl, rfl, rfl, rfl, rfl⟩))
  | nop44 b => exact unofficial_shape h (.read _ _ _ (fun _ _ => ⟨rfl, rfl, rfl, rfl, rfl, rfl, rfl⟩))
  | eorZp b => exact next_shape h (.read _ _ _ (fun _ _ => ⟨rfl, rfl, rfl, rfl, rfl, rfl, rfl⟩))
  | lsrZp b => exact next_shape h (.modify _ _ _ _ (fun _ _ _ => ⟨rfl, rfl, rfl, rfl, rfl, rfl, rfl⟩))
  | sreZp b => exact unofficial_shape h (.modify _ _ _ _ (fun _ _ _ => ⟨rfl, rfl, rfl, rfl, rfl, rfl, rfl⟩))
  | pha => exact next_shape h (.push _ _)
  | eorImm b => exact next_shape h (.read _ _ _ (fun _ _ => ⟨rfl, rfl, rfl, rfl, rfl, rfl, rfl⟩))
  | lsrAcc => exact next_shape h (.modify _ _ _ _ (fun _ _ _ => ⟨rfl, rfl, rfl, rfl, rfl, rfl, rfl⟩))
  | alr b => exact unofficial_shape h (.read _ _ _ (fun _ _ => ⟨rfl, rfl, rfl, rfl, rfl, rfl, rfl⟩))
  | jmpAbs w => exact next_shape h (.jmpAbs _)
  | eorAbs w => exact next_shape h (.read _ _ _ (fun _ _ => ⟨rfl, rfl, rfl, rfl, rfl, rfl, rfl⟩))
  | lsrAbs w => exact next_shape h (.modify _ _ _ _ (fun _ _ _ => ⟨rfl, rfl, rfl, rfl, rfl, rfl, rfl⟩))
  | sreAbs w => exact unofficial_shape h (.modify _ _ _ _ (fun _ _ _ => ⟨rfl, rfl, rfl, rfl, rfl, rfl, rfl⟩))
  | bvc b => exact next_shape h (.branch _ _)
  | eorIndY b => exact next_shape h (.read _ _ _ (fun _ _ => ⟨rfl, rfl, rfl, rfl, rfl, rfl, rfl⟩))
  | jam52 => exact jam_shape h
  | sreIndY b => exact unofficial_shape h (.modify _ _ _ _ (fun _ _ _ => ⟨rfl, rfl, rfl, rfl, rfl, rfl, rfl⟩))
  | nop54 b => exact unofficial_shape h (.read _ _ _ (fun _ _ => ⟨rfl, rfl, rfl, rfl, rfl, rfl, rfl⟩))
  | eorZpX b => exact next_shape h (.read _ _ _ (fun _ _ => ⟨rfl, rfl, rfl, rfl, rfl, rfl, rfl⟩))
  | lsrZpX b => exact next_shape h (.modify _ _ _ _ (fun _ _ _ => ⟨rfl, rfl, rfl, rfl, rfl, rfl, rfl⟩))
  | sreZpX b => exact unofficial_shape h (.modify _ _ _ _ (fun _ _ _ => ⟨rfl, rfl, rfl, rfl, rfl, rfl, rfl⟩))
  | cli => exact next_shape h (.implied _ _ (fun _ _ => ⟨rfl, rfl, rfl, rfl, rfl, rfl, rfl⟩))
  | eorAbsY w => exact next_shape h (.read _ _ _ (fun _ _ => ⟨rfl, rfl, rfl, rfl, rfl, rfl, rfl⟩))
  | nop5A => exact unofficial_shape h (.implied _ _ (fun _ _ => ⟨rfl, rfl, rfl, rfl, rfl, rfl, rfl⟩))
  | sreAbsY w => exact unofficial_shape h (.modify _ _ _ _ (fun _ _ _ => ⟨rfl, rfl, rfl, rfl, rfl, rfl, rfl⟩))
  | nop5C w => exact unofficial_shape h (.read _ _ _ (fun _ _ => ⟨rfl, rfl, rfl, rfl, rfl, rfl, rfl⟩))
  | eorAbsX w => exact next_shape h (.read _ _ _ (fun _ _ => ⟨rfl, rfl, rfl, rfl, rfl, rfl, rfl⟩))
  | lsrAbsX w => exact next_shape h (.modify _ _ _ _ (fun _ _ _ => ⟨rfl, rfl, rfl, rfl, rfl, rfl, rfl⟩))
  | sreAbsX w => exact unofficial_shape h (.modify _ _ _ _ (fun _ _ _ => ⟨rfl, rfl, rfl, rfl, rfl, rfl, rfl⟩))
  | rts => exact next_shape h .rts
  | adcIndX b => exact next_shape h (.read _ _ _ (fun _ _ => ⟨rfl, rfl, rfl, rfl, rfl, rfl, rfl⟩))
  | jam62 => exact jam_shape h
  | rraIndX b => exact unofficial_shape h (.modify _ _ _ _ (fun _ _ _ => ⟨rfl, rfl, rfl, rfl, rfl, rfl, rfl⟩))
  | nop64 b => exact unofficial_shape h (.read _ _ _ (fun _ _ => ⟨rfl, rfl, rfl, rfl, rfl, rfl, rfl⟩))
  | adcZp b => exact next_shape h (.read _ _ _ (fun _ _ => ⟨rfl, rfl, rfl, rfl, rfl, rfl, rfl⟩))
  | rorZp b => exact next_shape h (.modify _ _ _ _ (fun _ _ _ => ⟨rfl, rfl, rfl, rfl, rfl, rfl, rfl⟩))
  | rraZp b => exact unofficial_shape h (.modify _ _ _ _ (fun _ _ _ => ⟨rfl, rfl, rfl, rfl, rfl, rfl, rfl⟩))
  | pla => exact next_shape h .pla
  | adcImm b => exact next_shape h (.read _ _ _ (fun _ _ => ⟨rfl, rfl, rfl, rfl, rfl, rfl, rfl⟩))
  | rorAcc => exact next_shape h (.modify _ _ _ _ (fun _ _ _ => ⟨rfl, rfl, rfl, rfl, rfl, rfl, rfl⟩))
  | arr b => exact unofficial_shape h (.read _ _ _ (fun _ _ => ⟨rfl, rfl, rfl, rfl, rfl, rfl, rfl⟩))
  | jmpInd w => exact next_shape h (.jmpInd _)
  | adcAbs w => exact next_shape h (.read _ _ _ (fun _ _ => ⟨rfl, rfl, rfl, rfl, rfl, rfl, rfl⟩))
  | rorAbs w => exact next_shape h (.modify _ _ _ _ (fun _ _ _ => ⟨rfl, rfl, rfl, rfl, rfl, rfl, rfl⟩))
  | rraAbs w => exact unofficial_shape h (.modify _ _ _ _ (fun _ _ _ => ⟨rfl, rfl, rfl, rfl, rfl, rfl, rfl⟩))
  | bvs b => exact next_shape h (.branch _ _)
  | adcIndY b => exact next_shape h (.read _ _ _ (fun _ _ => ⟨rfl, rfl, rfl, rfl, rfl, rfl, rfl⟩))
  | jam72 => exact jam_shape h
  | rraIndY b => exact unofficial_shape h (.modify _ _ _ _ (fun _ _ _ => ⟨rfl, rfl, rfl, rfl, rfl, rfl, rfl⟩))
  | nop74 b => exact unofficial_shape h (.read _ _ _ (fun _ _ => ⟨rfl, rfl, rfl, rfl, rfl, rfl, rfl⟩))
  | adcZpX b => exact next_shape h (.read _ _ _ (fun _ _ => ⟨rfl, rfl, rfl, rfl, rfl, rfl, rfl⟩))
  | rorZpX b => exact next_shape h (.modify _ _ _ _ (fun _ _ _ => ⟨rfl, rfl, rfl, rfl, rfl, rfl, rfl⟩))
  | rraZpX b => exact unofficial_shape h (.modify _ _ _ _ (fun _ _ _ => ⟨rfl, rfl, rfl, rfl, rfl, rfl, rfl⟩))
  | sei => exact next_shape h (.implied _ _ (fun _ _ => ⟨rfl, rfl, rfl, rfl, rfl, rfl, rfl⟩))
  | adcAbsY w => exact next_shape h (.read _ _ _ (fun _ _ => ⟨rfl, rfl, rfl, rfl, rfl, rfl, rfl⟩))
  | nop7A => exact unofficial_shape h (.implied _ _ (fun _ _ => ⟨rfl, rfl, rfl, rfl, rfl, rfl, rfl⟩))
  | rraAbsY w => exact unofficial_shape h (.modify _ _ _ _ (fun _ _ _ => ⟨rfl, rfl, rfl, rfl, rfl, rfl, rfl⟩))
  | nop7C w => exact unofficial_shape h (.read _ _ _ (fun _ _ => ⟨rfl, rfl, rfl, rfl, rfl, rfl, rfl⟩))
  | adcAbsX w => exact next_shape h (.read _ _ _ (fun _ _ => ⟨rfl, rfl, rfl, rfl, rfl, rfl, rfl⟩))
  | rorAbsX w => exact next_shape h (.modify _ _ _ _ (fun _ _ _ => ⟨rfl, rfl, rfl, rfl, rfl, rfl, rfl⟩))
  | rraAbsX w => exact unofficial_shape h (.modify _ _ _ _ (fun _ _ _ => ⟨rfl, rfl, rfl, rfl, rfl, rfl, rfl⟩))
  | nop80 b => exact unofficial_shape h (.read _ _ _ (fun _ _ => ⟨rfl, rfl, rfl, rfl, rfl, rfl, rfl⟩))
  | staIndX b => exact next_shape h (.write _ _ _)
  | nop82 b => exact unofficial_shape h (.read _ _ _ (fun _ _ => ⟨rfl, rfl, rfl, rfl, rfl, rfl, rfl⟩))
  | saxIndX b => exact unofficial_shape h (.write _ _ _)
  | styZp b => exact next_shape h (.write _ _ _)
  | staZp b => exact next_shape h (.write _ _ _)
  | stxZp b => exact next_shape h (.write _ _ _)
  | saxZp b => exact unofficial_shape h (.write _ _ _)
  | dey => exact next_shape h (.implied _ _ (fun _ _ => ⟨rfl, rfl, rfl, rfl, rfl, rfl, rfl⟩))
  | nop89 b => exact unofficial_shape h (.read _ _ _ (fun _ _ => ⟨rfl, rfl, rfl, rfl, rfl, rfl, rfl⟩))
  | txa => exact next_shape h (.implied _ _ (fun _ _ => ⟨rfl, rfl, rfl, rfl, rfl, rfl, rfl⟩))
  | ane b => exact unstable_shape h
  | styAbs w => exact next_shape h (.write _ _ _)
  | staAbs w => exact next_shape h (.write _ _ _)
  | stxAbs w => exact next_shape h (.write _ _ _)
  | saxAbs w => exact unofficial_shape h (.write _ _ _)
  | bcc b => exact next_shape h (.branch _ _)
  | staIndY b => exact next_shape h (.write _ _ _)
  | jam92 => exact jam_shape h
  | shaIndY b => exact unstable_shape h
  | styZpX b => exact next_shape h (.write _ _ _)
  | staZpX b => exact next_shape h (.write _ _ _)
  | stxZpY b => exact next_shape h (.write _ _ _)
  | saxZpY b => exact unofficial_shape h (.write _ _ _)
  | tya => exact next_shape h (.implied _ _ (fun _ _ => ⟨rfl, rfl, rfl, rfl, rfl, rfl, rfl⟩))
  | staAbsY w => exact next_shape h (.write _ _ _)
  | txs => exact next_shape h (.implied _ _ (fun _ _ => ⟨rfl, rfl, rfl, rfl, rfl, rfl, rfl⟩))
  | tas w => exact unstable_shape h
  | shy w => exact unstable_shape h
  | staAbsX w => exact next_shape h (.write _ _ _)
  | shx w => exact unstable_shape h
  | shaAbsY w => exact unstable_shape h
  | ldyImm b => exact next_shape h (.read _ _ _ (fun _ _ => ⟨rfl, rfl, rfl, rfl, rfl, rfl, rfl⟩))
  | ldaIndX b => exact next_shape h (.read _ _ _ (fun _ _ => ⟨rfl, rfl, rfl, rfl, rfl, rfl, rfl⟩))
  | ldxImm b => exact next_shape h (.read _ _ _ (fun _ _ => ⟨rfl, rfl, rfl, rfl, rfl, rfl, rfl⟩))
  | laxIndX b => exact unofficial_shape h (.read _ _ _ (fun _ _ => ⟨rfl, rfl, rfl, rfl, rfl, rfl, rfl⟩))
  | ldyZp b => exact next_shape h (.read _ _ _ (fun _ _ => ⟨rfl, rfl, rfl, rfl, rfl, rfl, rfl⟩))
  | ldaZp b => exact next_shape h (.read _ _ _ (fun _ _ => ⟨rfl, rfl, rfl, rfl, rfl, rfl, rfl⟩))
  | ldxZp b => exact next_shape h (.read _ _ _ (fun _ _ => ⟨rfl, rfl, rfl, rfl, rfl, rfl, rfl⟩))
  | laxZp b => exact unofficial_shape h (.read _ _ _ (fun _ _ => ⟨rfl, rfl, rfl, rfl, rfl, rfl, rfl⟩))
  | tay => exact next_shape h (.implied _ _ (fun _ _ => ⟨rfl, rfl, rfl, rfl, rfl, rfl, rfl⟩))
  | ldaImm b => exact next_shape h (.read _ _ _ (fun _ _ => ⟨rfl, rfl, rfl, rfl, rfl, rfl, rfl⟩))
  | tax => exact next_shape h (.implied _ _ (fun _ _ => ⟨rfl, rfl, rfl, rfl, rfl, rfl, rfl⟩))
  | lxa b => exact unstable_shape h
  | ldyAbs w => exact next_shape h (.read _ _ _ (fun _ _ => ⟨rfl, rfl, rfl, rfl, rfl, rfl, rfl⟩))
  | ldaAbs w => exact next_shape h (.read _ _ _ (fun _ _ => ⟨rfl, rfl, rfl, rfl, rfl, rfl, rfl⟩))
  | ldxAbs w => exact next_shape h (.read _ _ _ (fun _ _ => ⟨rfl, rfl, rfl, rfl, rfl, rfl, rfl⟩))
  | laxAbs w => exact unofficial_shape h (.read _ _ _ (fun _ _ => ⟨rfl, rfl, rfl, rfl, rfl, rfl, rfl⟩))
  | bcs b => exact next_shape h (.branch _ _)
  | ldaIndY b => exact next_shape h (.read _ _ _ (fun _ _ => ⟨rfl, rfl, rfl, rfl, rfl, rfl, rfl⟩))
  | jamB2 => exact jam_shape h
  | laxIndY b => exact unofficial_shape h (.read _ _ _ (fun _ _ => ⟨rfl, rfl, rfl, rfl, rfl, rfl, rfl⟩))
  | ldyZpX b => exact next_shape h (.read _ _ _ (fun _ _ => ⟨rfl, rfl, rfl, rfl, rfl, rfl, rfl⟩))
  | ldaZpX b => exact next_shape h (.read _ _ _ (fun _ _ => ⟨rfl, rfl, rfl, rfl, rfl, rfl, rfl⟩))
  | ldxZpY b => exact next_shape h (.read _ _ _ (fun _ _ => ⟨rfl, rfl, rfl, rfl, rfl, rfl, rfl⟩))
  | laxZpY b => exact unofficial_shape h (.read _ _ _ (fun _ _ => ⟨rfl, rfl, rfl, rfl, rfl, rfl, rfl⟩))
  | clv => exact next_shape h (.implied _ _ (fun _ _ => ⟨rfl, rfl, rfl, rfl, rfl, rfl, rfl⟩))
  | ldaAbsY w => exact next_shape h (.read _ _ _ (fun _ _ => ⟨rfl, rfl, rfl, rfl, rfl, rfl, rfl⟩))
  | tsx => exact next_shape h (.implied _ _ (fun _ _ => ⟨rfl, rfl, rfl, rfl, rfl, rfl, rfl⟩))
  | las w => exact unofficial_shape h (.read _ _ _ (fun _ _ => ⟨rfl, rfl, rfl, rfl, rfl, rfl, rfl⟩))
  | ldyAbsX w => exact next_shape h (.read _ _ _ (fun _ _ => ⟨rfl, rfl, rfl, rfl, rfl, rfl, rfl⟩))
  | ldaAbsX w => exact next_shape h (.read _ _ _ (fun _ _ => ⟨rfl, rfl, rfl, rfl, rfl, rfl, rfl⟩))
  | ldxAbsY w => exact next_shape h (.read _ _ _ (fun _ _ => ⟨rfl, rfl, rfl, rfl, rfl, rfl, rfl⟩))
  | laxAbsY w => exact unofficial_shape h (.read _ _ _ (fun _ _ => ⟨rfl, rfl, rfl, rfl, rfl, rfl, rfl⟩))
  | cpyImm b => exact next_shape h (.read _ _ _ (fun _ _ => ⟨rfl, rfl, rfl, rfl, rfl, rfl, rfl⟩))
  | cmpIndX b => exact next_shape h (.read _ _ _ (fun _ _ => ⟨rfl, rfl, rfl, rfl, rfl, rfl, rfl⟩))
  | nopC2 b => exact unofficial_shape h (.read _ _ _ (fun _ _ => ⟨rfl, rfl, rfl, rfl, rfl, rfl, rfl⟩))
  | dcpIndX b => exact unofficial_shape h (.modify _ _ _ _ (fun _ _ _ => ⟨rfl, rfl, rfl, rfl, rfl, rfl, rfl⟩))
  | cpyZp b => exact next_shape h (.read _ _ _ (fun _ _ => ⟨rfl, rfl, rfl, rfl, rfl, rfl, rfl⟩))
  | cmpZp b => exact next_shape h (.read _ _ _ (fun _ _ => ⟨rfl, rfl, rfl, rfl, rfl, rfl, rfl⟩))
  | decZp b => exact next_shape h (.modify _ _ _ _ (fun _ _ _ => ⟨rfl, rfl, rfl, rfl, rfl, rfl, rfl⟩))
  | dcpZp b => exact unofficial_shape h (.modify _ _ _ _ (fun _ _ _ => ⟨rfl, rfl, rfl, rfl, rfl, rfl, rfl⟩))
  | iny => exact next_shape h (.implied _ _ (fun _ _ => ⟨rfl, rfl, rfl, rfl, rfl, rfl, rfl⟩))
  | cmpImm b => exact next_shape h (.read _ _ _ (fun _ _ => ⟨rfl, rfl, rfl, rfl, rfl, rfl, rfl⟩))
  | dex => exact next_shape h (.implied _ _ (fun _ _ => ⟨rfl, rfl, rfl, rfl, rfl, rfl, rfl⟩))
  | axs b => exact unofficial_shape h (.read _ _ _ (fun _ _ => ⟨rfl, rfl, rfl, rfl, rfl, rfl, rfl⟩))
  | cpyAbs w => exact next_shape h (.read _ _ _ (fun _ _ => ⟨rfl, rfl, rfl, rfl, rfl, rfl, rfl⟩))
  | cmpAbs w => exact next_shape h (.read _ _ _ (fun _ _ => ⟨rfl, rfl, rfl, rfl, rfl, rfl, rfl⟩))
  | decAbs w => exact next_shape h (.modify _ _ _ _ (fun _ _ _ => ⟨rfl, rfl, rfl, rfl, rfl, rfl, rfl⟩))
  | dcpAbs w => exact unofficial_shape h (.modify _ _ _ _ (fun _ _ _ => ⟨rfl, rfl, rfl, rfl, rfl, rfl, rfl⟩))
  | bne b => exact next_shape h (.branch _ _)
  | cmpIndY b => exact next_shape h (.read _ _ _ (fun _ _ => ⟨rfl, rfl, rfl, rfl, rfl, rfl, rfl⟩))
  | jamD2 => exact jam_shape h
  | dcpIndY b => exact unofficial_shape h (.modify _ _ _ _ (fun _ _ _ => ⟨rfl, rfl, rfl, rfl, rfl, rfl, rfl⟩))
  | nopD4 b => exact unofficial_shape h (.read _ _ _ (fun _ _ => ⟨rfl, rfl, rfl, rfl, rfl, rfl, rfl⟩))
  | cmpZpX b => exact next_shape h (.read _ _ _ (fun _ _ => ⟨rfl, rfl, rfl, rfl, rfl, rfl, rfl⟩))
  | decZpX b => exact next_shape h (.modify _ _ _ _ (fun _ _ _ => ⟨rfl, rfl, rfl, rfl, rfl, rfl, rfl⟩))
  | dcpZpX b => exact unofficial_shape h (.modify _ _ _ _ (fun _ _ _ => ⟨rfl, rfl, rfl, rfl, rfl, rfl, rfl⟩))
  | cld => exact next_shape h (.implied _ _ (fun _ _ => ⟨rfl, rfl, rfl, rfl, rfl, rfl, rfl⟩))
  | cmpAbsY w => exact next_shape h (.read _ _ _ (fun _ _ => ⟨rfl, rfl, rfl, rfl, rfl, rfl, rfl⟩))
  | nopDA => exact unofficial_shape h (.implied _ _ (fun _ _ => ⟨rfl, rfl, rfl, rfl, rfl, rfl, rfl⟩))
  | dcpAbsY w => exact unofficial_shape h (.modify _ _ _ _ (fun _ _ _ => ⟨rfl, rfl, rfl, rfl, rfl, rfl, rfl⟩))
  | nopDC w => exact unofficial_shape h (.read _ _ _ (fun _ _ => ⟨rfl, rfl, rfl, rfl, rfl, rfl, rfl⟩))
  | cmpAbsX w => exact next_shape h (.read _ _ _ (fun _ _ => ⟨rfl, rfl, rfl, rfl, rfl, rfl, rfl⟩))
  | decAbsX w => exact next_shape h (.modify _ _ _ _ (fun _ _ _ => ⟨rfl, rfl, rfl, rfl, rfl, rfl, rfl⟩))
  | dcpAbsX w => exact unofficial_shape h (.modify _ _ _ _ (fun _ _ _ => ⟨rfl, rfl, rfl, rfl, rfl, rfl, rfl⟩))
  | cpxImm b => exact next_shape h (.read _ _ _ (fun _ _ => ⟨rfl, rfl, rfl, rfl, rfl, rfl, rfl⟩))
  | sbcIndX b => exact next_shape h (.read _ _ _ (fun _ _ => ⟨rfl, rfl, rfl, rfl, rfl, rfl, rfl⟩))
  | nopE2 b => exact unofficial_shape h (.read _ _ _ (fun _ _ => ⟨rfl, rfl, rfl, rfl, rfl, rfl, rfl⟩))
  | iscIndX b => exact unofficial_shape h (.modify _ _ _ _ (fun _ _ _ => ⟨rfl, rfl, rfl, rfl, rfl, rfl, rfl⟩))
  | cpxZp b => exact next_shape h (.read _ _ _ (fun _ _ => ⟨rfl, rfl, rfl, rfl, rfl, rfl, rfl⟩))
  | sbcZp b => exact next_shape h (.read _ _ _ (fun _ _ => ⟨rfl, rfl, rfl, rfl, rfl, rfl, rfl⟩))
  | incZp b => exact next_shape h (.modify _ _ _ _ (fun _ _ _ => ⟨rfl, rfl, rfl, rfl, rfl, rfl, rfl⟩))
  | iscZp b => exact unofficial_shape h (.modify _ _ _ _ (fun _ _ _ => ⟨rfl, rfl, rfl, rfl, rfl, rfl, rfl⟩))
  | inx => exact next_shape h (.implied _ _ (fun _ _ => ⟨rfl, rfl, rfl, rfl, rfl, rfl, rfl⟩))
  | sbcImm b => exact next_shape h (.read _ _ _ (fun _ _ => ⟨rfl, rfl, rfl, rfl, rfl, rfl, rfl⟩))
  | nop => exact next_shape h (.implied _ _ (fun _ _ => ⟨rfl, rfl, rfl, rfl, rfl, rfl, rfl⟩))
  | sbcEB b => exact unofficial_shape h (.read _ _ _ (fun _ _ => ⟨rfl, rfl, rfl, rfl, rfl, rfl, rfl⟩))
  | cpxAbs w => exact next_shape h (.read _ _ _ (fun _ _ => ⟨rfl, rfl, rfl, rfl, rfl, rfl, rfl⟩))
  | sbcAbs w => exact next_shape h (.read _ _ _ (fun _ _ => ⟨rfl, rfl, rfl, rfl, rfl, rfl, rfl⟩))
  | incAbs w => exact next_shape h (.modify _ _ _ _ (fun _ _ _ => ⟨rfl, rfl, rfl, rfl, rfl, rfl, rfl⟩))
  | iscAbs w => exact unofficial_shape h (.modify _ _ _ _ (fun _ _ _ => ⟨rfl, rfl, rfl, rfl, rfl, rfl, rfl⟩))
  | beq b => exact next_shape h (.branch _ _)
  | sbcIndY b => exact next_shape h (.read _ _ _ (fun _ _ => ⟨rfl, rfl, rfl, rfl, rfl, rfl, rfl⟩))
  | jamF2 => exact jam_shape h
  | iscIndY b => exact unofficial_shape h (.modify _ _ _ _ (fun _ _ _ => ⟨rfl, rfl, rfl, rfl, rfl, rfl, rfl⟩))
  | nopF4 b => exact unofficial_shape h (.read _ _ _ (fun _ _ => ⟨rfl, rfl, rfl, rfl, rfl, rfl, rfl⟩))
  | sbcZpX b => exact next_shape h (.read _ _ _ (fun _ _ => ⟨rfl, rfl, rfl, rfl, rfl, rfl, rfl⟩))
  | incZpX b => exact next_shape h (.modify _ _ _ _ (fun _ _ _ => ⟨rfl, rfl, rfl, rfl, rfl, rfl, rfl⟩))
  | iscZpX b => exact unofficial_shape h (.modify _ _ _ _ (fun _ _ _ => ⟨rfl, rfl, rfl, rfl, rfl, rfl, rfl⟩))
  | sed => exact next_shape h (.implied _ _ (fun _ _ => ⟨rfl, rfl, rfl, rfl, rfl, rfl, rfl⟩))
  | sbcAbsY w => exact next_shape h (.read _ _ _ (fun _ _ => ⟨rfl, rfl, rfl, rfl, rfl, rfl, rfl⟩))
  | nopFA => exact unofficial_shape h (.implied _ _ (fun _ _ => ⟨rfl, rfl, rfl, rfl, rfl, rfl, rfl⟩))
  | iscAbsY w => exact unofficial_shape h (.modify _ _ _ _ (fun _ _ _ => ⟨rfl, rfl, rfl, rfl, rfl, rfl, rfl⟩))
  | nopFC w => exact unofficial_shape h (.read _ _ _ (fun _ _ => ⟨rfl, rfl, rfl, rfl, rfl, rfl, rfl⟩))
  | sbcAbsX w => exact next_shape h (.read _ _ _ (fun _ _ => ⟨rfl, rfl, rfl, rfl, rfl, rfl, rfl⟩))
  | incAbsX w => exact next_shape h (.modify _ _ _ _ (fun _ _ _ => ⟨rfl, rfl, rfl, rfl, rfl, rfl, rfl⟩))
  | iscAbsX w => exact unofficial_shape h (.modify _ _ _ _ (fun _ _ _ => ⟨rfl, rfl, rfl, rfl, rfl, rfl, rfl⟩))

end Sys2Proof.Machine
end

