-- ==== Sys2Proof/Laws/Devices.lean ====
section
/-! SUPPORT. What the devices behind the bus see of an instruction (20_memory.md R55, R62, R70): every access outside
internal RAM once and in order, then the step's cost. -/

namespace Sys2Proof.Machine

open Sys2Proof

/-- A PPU register's mirrors are one address to the devices (R52). -/
theorem deviceAddr_eq (a : Addr) : deviceAddr a = mirrored a := by
  have h : BitVec.ofNat 16 (a.toNat % 8) = a &&& 7 := by
    apply BitVec.eq_of_toNat_eq
    rw [BitVec.toNat_and, BitVec.toNat_ofNat, show (7 : Addr).toNat = 2 ^ 3 - 1 from rfl, Nat.and_two_pow_sub_one_eq_mod]
    omega
  unfold deviceAddr mirrored
  rw [h]

theorem tokenAfter_append (token : Nat) (later earlier : List BusEvent) :
    tokenAfter token (later ++ earlier) = tokenAfter (tokenAfter token earlier) later := by
  induction later with
  | nil => rfl
  | cons e later ih =>
    simp only [List.cons_append, tokenAfter]
    rw [ih]

theorem startsDma_append (later earlier : List BusEvent) :
    startsDma (later ++ earlier) = (startsDma earlier || startsDma later) := by
  simp [startsDma, Bool.or_comm]

/-- Inside a step: the accesses recorded were handed to the devices, a write to 0x4014 is marked, and the account of the
step is untouched. -/
def Handed (s t : State) : Prop :=
  ∃ ev, t.trace = ev ++ s.trace ∧ t.devices = tokenAfter s.devices ev ∧
    t.dmaWritten = (s.dmaWritten || startsDma ev) ∧ t.cycles = s.cycles ∧ t.cfg = s.cfg

theorem Handed.refl (s : State) : Handed s s := ⟨[], rfl, rfl, by simp [startsDma], rfl, rfl⟩

theorem Handed.trans {s t u : State} (h : Handed s t) (h' : Handed t u) : Handed s u := by
  obtain ⟨e, h1, h2, h3, h4, h5⟩ := h
  obtain ⟨e', k1, k2, k3, k4, k5⟩ := h'
  refine ⟨e' ++ e, by rw [k1, h1, List.append_assoc], by rw [k2, h2, tokenAfter_append], ?_, k4.trans h4, k5.trans h5⟩
  rw [k3, h3, startsDma_append, Bool.or_assoc]

/-- It reads five fields alone. -/
theorem Handed.congr {s t t' : State} (h : Handed s t) (ht : t'.trace = t.trace) (hd : t'.devices = t.devices)
    (hw : t'.dmaWritten = t.dmaWritten) (hc : t'.cycles = t.cycles) (hf : t'.cfg = t.cfg) : Handed s t' := by
  obtain ⟨e, h1, h2, h3, h4, h5⟩ := h
  exact ⟨e, ht.trans h1, hd.trans h2, hw.trans h3, hc.trans h4, hf.trans h5⟩

theorem RegistersOnly.handed {f : State → Byte → State} (hf : RegistersOnly f) {s t : State} (h : Handed s t) (v : Byte) :
    Handed s (f t v) := by
  obtain ⟨_, e2, e3, e4, e5, _, e7⟩ := hf t v
  exact h.congr e2 e7 e4 e3 e5

theorem busRead_handed (s : State) (a : Addr) : Handed s (s.busRead a) := by
  refine ⟨[⟨.read, a, s.busByte a⟩], rfl, ?_, by simp [startsDma], rfl, rfl⟩
  rw [State.busRead_devices, isDevice_eq, deviceAddr_eq]
  by_cases h : a.toNat < 0x2000
  · simp [tokenAfter, h]
  · simp [tokenAfter, h, Nat.not_lt.mp h]

theorem busWrite_handed (s : State) (a : Addr) (v : Byte) : Handed s (s.busWrite a v) := by
  refine ⟨[⟨.write, a, v⟩], rfl, ?_, by simp [startsDma], rfl, rfl⟩
  rw [State.busWrite_devices, isDevice_eq, deviceAddr_eq]
  by_cases h : a.toNat < 0x2000
  · simp [tokenAfter, h]
  · simp [tokenAfter, h, Nat.not_lt.mp h]

theorem busRead2_handed (s : State) (a b : Addr) : Handed s (s.busRead2 a b) :=
  (busRead_handed s a).trans (busRead_handed _ b)

theorem dummyRead_handed (s : State) (a : Addr) : Handed s (s.dummyRead a) := by
  unfold State.dummyRead
  split
  · exact busRead_handed s a
  · exact Handed.refl s

theorem dummyWrite_handed (s : State) (a : Addr) (v : Byte) : Handed s (s.dummyWrite a v) := by
  unfold State.dummyWrite
  split
  · exact busWrite_handed s a v
  · exact Handed.refl s

theorem push_handed (s : State) (v : Byte) : Handed s (s.push v) :=
  (busWrite_handed s (stackSlot s.sp) v).congr rfl rfl rfl rfl rfl

theorem pull_handed (s : State) : Handed s s.pull :=
  (busRead_handed s (stackSlot (s.sp + 1))).congr rfl rfl rfl rfl rfl

theorem pushPc_handed (s : State) : Handed s s.pushPc := (push_handed s _).trans (push_handed _ _)

theorem fetch8_handed (s : State) : Handed s s.fetch8 := (busRead_handed s s.pc).congr rfl rfl rfl rfl rfl

theorem jumpThrough_handed (s : State) (vec : Addr) : Handed s (s.jumpThrough vec) :=
  (busRead2_handed s vec (vec + 1)).congr rfl rfl rfl rfl rfl

theorem enterException_handed (s : State) (brk i : Bool) (vec : Addr) : Handed s (s.enterException brk i vec) :=
  (((pushPc_handed s).trans (push_handed _ (packP brk s.p))).congr (t' := (s.pushPc.push (packP brk s.p)).setI i)
    rfl rfl rfl rfl rfl).trans (jumpThrough_handed _ vec)

theorem locate_handed (cls : Access) (m : Mode) (s : State) : Handed s (locate cls m s).st := by
  have indexed (base : Addr) (i : Byte) (u : State) : Handed u (locateIndexed cls base i u).st := by
    unfold locateIndexed
    simp only
    split
    · exact Handed.refl u
    · exact dummyRead_handed u _
  cases m with
  | acc => exact dummyRead_handed s _
  | imm b => exact Handed.refl s
  | zp b => exact Handed.refl s
  | zpX b => exact dummyRead_handed s _
  | zpY b => exact dummyRead_handed s _
  | abs w => exact Handed.refl s
  | absX w => exact indexed w s.x s
  | absY w => exact indexed w s.y s
  | indX b => exact (dummyRead_handed s _).trans (busRead2_handed _ _ _)
  | indY b => exact (busRead2_handed s _ _).trans (indexed _ _ _)

theorem loaded_handed (o : Operand) (s : State) : Handed s (o.loaded s) := by
  cases o with
  | acc => exact Handed.refl s
  | imm v => exact Handed.refl s
  | mem ea c => exact busRead_handed s ea

theorem store_handed (o : Operand) (v : Byte) (s : State) : Handed s (o.store v s) := by
  cases o with
  | acc => exact (Handed.refl s).congr rfl rfl rfl rfl rfl
  | imm v => exact Handed.refl s
  | mem ea c => exact busWrite_handed s ea v

theorem writeBack_handed (o : Operand) (v : Byte) (s : State) : Handed s (o.writeBack v s) := by
  cases o with
  | acc => exact Handed.refl s
  | imm v => exact Handed.refl s
  | mem ea c => exact dummyWrite_handed s ea v

/-- Every shape hands its accesses on and then ends the step with a cost, but for JAM's, which returns none. -/
theorem Shape.handed {s t : State} (h : Shape s t) :
    (∃ u cost, Handed s u ∧ t = u.finish cost) ∨ (Handed s t ∧ t.lastCost = none) := by
  have ends {u : State} (h : Handed s u) (cost : Nat) :
      (∃ u' cost', Handed s u' ∧ u.finish cost = u'.finish cost') ∨
        (Handed s (u.finish cost) ∧ (u.finish cost).lastCost = none) := .inl ⟨u, cost, h, rfl⟩
  cases h with
  | read m cost f hf => exact ends (hf.handed ((locate_handed .read m s).trans (loaded_handed _ _)) _) _
  | write m cost v => exact ends ((locate_handed .write m s).trans (store_handed _ v _)) cost
  | modify m cost new g hg =>
    refine ends (RegistersOnly.handed (hg _) ?_ _) cost
    exact (((locate_handed .rmw m s).trans (loaded_handed _ _)).trans (writeBack_handed _ _ _)).trans (store_handed _ _ _)
  | implied cost f hf => exact ends (hf.handed (dummyRead_handed s s.pc) 0) cost
  | branch cond off =>
    cases cond with
    | false => exact ends (Handed.refl s) 2
    | true =>
      unfold branchOp takeBranch
      simp only [if_true]
      split
      · exact ends (((dummyRead_handed s s.pc).trans (dummyRead_handed _ _)).congr (by rfl) (by rfl) (by rfl) (by rfl)
          (by rfl)) 4
      · exact ends ((dummyRead_handed s s.pc).congr (by rfl) (by rfl) (by rfl) (by rfl) (by rfl)) 3
  | push cost v => exact ends ((dummyRead_handed s s.pc).trans (push_handed _ v)) cost
  | pla =>
    exact ends ((((dummyRead_handed s s.pc).trans (dummyRead_handed _ _)).trans (pull_handed _)).congr (by rfl) (by rfl)
      (by rfl) (by rfl) (by rfl)) 4
  | plp =>
    exact ends ((((dummyRead_handed s s.pc).trans (dummyRead_handed _ _)).trans (pull_handed _)).congr (by rfl) (by rfl)
      (by rfl) (by rfl) (by rfl)) 4
  | jmpAbs w => exact ends ((Handed.refl s).congr (by rfl) (by rfl) (by rfl) (by rfl) (by rfl)) 3
  | jmpInd w => exact ends ((busRead2_handed s _ _).congr (by rfl) (by rfl) (by rfl) (by rfl) (by rfl)) 5
  | jsr w =>
    exact ends ((((dummyRead_handed s _).trans (pushPc_handed _)).trans (fetch8_handed _)).congr (by rfl) (by rfl)
      (by rfl) (by rfl) (by rfl)) 6
  | rts =>
    have h := ((dummyRead_handed s s.pc).trans (dummyRead_handed _ (stackSlot s.sp))).trans
      ((pull_handed _).trans (pull_handed _))
    exact ends ((h.trans (dummyRead_handed _ _)).congr (by rfl) (by rfl) (by rfl) (by rfl) (by rfl)) 6
  | rti =>
    have h := ((dummyRead_handed s s.pc).trans (dummyRead_handed _ (stackSlot s.sp))).trans
      (((pull_handed _).trans (pull_handed _)).trans (pull_handed _))
    exact ends (h.congr (by rfl) (by rfl) (by rfl) (by rfl) (by rfl)) 6
  | brk =>
    have h : Handed s s.skipPadding := (dummyRead_handed s s.pc).congr rfl rfl rfl rfl rfl
    exact ends (h.trans (enterException_handed _ true true irqVector)) 7
  | noop cost => exact ends (Handed.refl s) cost
  | jam => exact .inr ⟨(dummyRead_handed s s.pc).congr rfl rfl rfl rfl rfl, rfl⟩

end Sys2Proof.Machine
end

