-- ==== Sys2Proof/Laws/Flags.lean ====
section
/-! SUPPORT. What the flag computations give, in whole numbers (43_arith_logic.md R160, R161) and bit by bit (10_state.md
R29, R30). -/

namespace Sys2Proof.Machine

open Sys2Proof

theorem getLsbD_seven (v : Byte) : v.getLsbD 7 = v.msb := (BitVec.msb_eq_getLsbD_last v).symm

theorem setNZ_eq (s : State) (v : Byte) : s.setNZ v = { s with p := nz s.p v } := by
  unfold State.setNZ nz; rw [getLsbD_seven]; rfl

theorem msb_eq_decide (v : Byte) : v.msb = decide (128 ≤ v.toNat) := BitVec.msb_eq_decide v

theorem toInt_cases (v : Byte) : v.toInt = if 128 ≤ v.toNat then (v.toNat : Int) - 256 else v.toNat := by
  rw [BitVec.toInt_eq_toNat_cond]
  have := v.isLt
  split <;> split <;> omega

theorem addResult_toNat (a m : Byte) (c : Bool) : (addResult a m c).toNat = (a.toNat + m.toNat + c.toNat) % 256 := rfl

theorem addCarry_eq (a m : Byte) (c : Bool) : addCarry a m c = decide (256 ≤ a.toNat + m.toNat + c.toNat) := by
  have ha := a.isLt
  have hm := m.isLt
  have hc := Bool.toNat_le c
  unfold addCarry addSum
  rw [Nat.testBit_eq_decide_div_mod_eq]
  congr 1
  rw [eq_iff_iff]
  omega

/-- Bit 7 of `(a ^ r) & (m ^ r)`: the operands' signs agree and the result's differs. -/
theorem addOverflow_msb (a m : Byte) (c : Bool) : addOverflow a m c =
    ((a.msb != (addResult a m c).msb) && (m.msb != (addResult a m c).msb)) := by
  unfold addOverflow
  rw [getLsbD_seven, BitVec.msb_and, BitVec.msb_xor, BitVec.msb_xor]

/-- V is 1 exactly when the two's-complement sum lies outside -128 to +127 (R160). -/
theorem addOverflow_eq (a m : Byte) (c : Bool) : addOverflow a m c =
    decide (a.toInt + m.toInt + c.toNat < -128 ∨ 127 < a.toInt + m.toInt + c.toNat) := by
  have ha := a.isLt
  have hm := m.isLt
  have hc := Bool.toNat_le c
  rw [addOverflow_msb, msb_eq_decide, msb_eq_decide, msb_eq_decide, addResult_toNat, toInt_cases, toInt_cases,
    Bool.eq_iff_iff]
  simp only [Bool.and_eq_true, bne_iff_ne, ne_eq, decide_eq_decide, decide_eq_true_eq]
  split <;> split <;> omega

/-- ADC (R162). -/
theorem addToA_eq (s : State) (m : Byte) : s.addToA m = s.added m := by
  unfold State.addToA State.added
  rw [setNZ_eq, addCarry_eq, addOverflow_eq]
  rfl

theorem not_toNat (m : Byte) : (~~~m).toNat = 255 - m.toNat := by
  rw [BitVec.toNat_not]

/-- SBC (R163): the adder on the complement subtracts. -/
theorem subFromA_eq (s : State) (m : Byte) : s.subFromA m = s.subtracted m := by
  have ha := s.a.isLt
  have hm := m.isLt
  have hn := not_toNat m
  have hr : BitVec.ofNat 8 (s.a.toNat + (~~~m).toNat + s.p.c.toNat) = s.a - m - BitVec.ofNat 8 (1 - s.p.c.toNat) := by
    apply BitVec.eq_of_toNat_eq
    rw [hn]
    cases s.p.c <;> simp only [BitVec.toNat_ofNat, BitVec.toNat_sub, Bool.toNat_true, Bool.toNat_false] <;> omega
  have hc : (256 ≤ s.a.toNat + (~~~m).toNat + s.p.c.toNat) ↔ (m.toNat + (1 - s.p.c.toNat) ≤ s.a.toNat) := by
    rw [hn]
    cases s.p.c <;> simp only [Bool.toNat_true, Bool.toNat_false] <;> omega
  have hv : s.a.toInt + (~~~m).toInt + s.p.c.toNat = s.a.toInt - m.toInt - (1 - s.p.c.toNat : Nat) := by
    rw [toInt_cases (~~~m), toInt_cases m, hn]
    cases s.p.c <;> simp only [Bool.toNat_true, Bool.toNat_false] <;> split <;> split <;> omega
  unfold State.subFromA
  rw [addToA_eq]
  unfold State.added State.subtracted
  simp only [hr, hv, hc]

theorem compare_eq (s : State) (r m : Byte) : s.compare r m = { s with p := compared s.p r m } := by
  unfold State.compare compared; rw [getLsbD_seven]; rfl

theorem rolByte_eq (v : Byte) (p : Flags) : rolByte v p.c = (v <<< 1) ||| carry p := by
  unfold rolByte carry; cases p.c <;> rfl

theorem rorByte_eq (v : Byte) (p : Flags) : rorByte v p.c = (carry p <<< 7) ||| (v >>> 1) := by
  unfold rorByte carry; cases p.c <;> rfl

/-- `PackP` bit by bit (10_state.md R29). -/
theorem packP_bits (b : Bool) (p : Flags) : (packP b p).getLsbD 7 = p.n ∧ (packP b p).getLsbD 6 = p.v ∧
    (packP b p).getLsbD 5 = true ∧ (packP b p).getLsbD 4 = b ∧ (packP b p).getLsbD 3 = p.d ∧
    (packP b p).getLsbD 2 = p.i ∧ (packP b p).getLsbD 1 = p.z ∧ (packP b p).getLsbD 0 = p.c := by
  obtain ⟨c, z, i, d, v, n⟩ := p
  revert b c z i d v n
  decide

/-- Pulling a pushed status byte gives the flags back (R29, R30). -/
theorem unpackP_packP (b : Bool) (p : Flags) : unpackP (packP b p) = p := by
  obtain ⟨c, z, i, d, v, n⟩ := p
  revert b c z i d v n
  decide

end Sys2Proof.Machine
end

