-- ==== Sys2Proof/Laws/Rows.lean ====
section
/-! SUPPORT. The table's row of every instruction, ready to rewrite with. -/

namespace Sys2Proof

@[simp] theorem row_brk : (.brk : Instr).row = ⟨"BRK", .implied, some 7, false, .stack, .official⟩ :=
  (rfl : _ = opcodeRow 0x00).trans rfl
@[simp] theorem row_oraIndX (b : Byte) : (.oraIndX b : Instr).row = ⟨"ORA", .indexedIndirect, some 6, false, .read, .official⟩ :=
  (rfl : _ = opcodeRow 0x01).trans rfl
@[simp] theorem row_jam02 : (.jam02 : Instr).row = ⟨"*JAM", .implied, none, false, .none, .jam⟩ :=
  (rfl : _ = opcodeRow 0x02).trans rfl
@[simp] theorem row_sloIndX (b : Byte) : (.sloIndX b : Instr).row = ⟨"*SLO", .indexedIndirect, some 8, false, .rmw, .stable⟩ :=
  (rfl : _ = opcodeRow 0x03).trans rfl
@[simp] theorem row_nop04 (b : Byte) : (.nop04 b : Instr).row = ⟨"*NOP", .zeroPage, some 3, false, .read, .stable⟩ :=
  (rfl : _ = opcodeRow 0x04).trans rfl
@[simp] theorem row_oraZp (b : Byte) : (.oraZp b : Instr).row = ⟨"ORA", .zeroPage, some 3, false, .read, .official⟩ :=
  (rfl : _ = opcodeRow 0x05).trans rfl
@[simp] theorem row_aslZp (b : Byte) : (.aslZp b : Instr).row = ⟨"ASL", .zeroPage, some 5, false, .rmw, .official⟩ :=
  (rfl : _ = opcodeRow 0x06).trans rfl
@[simp] theorem row_sloZp (b : Byte) : (.sloZp b : Instr).row = ⟨"*SLO", .zeroPage, some 5, false, .rmw, .stable⟩ :=
  (rfl : _ = opcodeRow 0x07).trans rfl
@[simp] theorem row_php : (.php : Instr).row = ⟨"PHP", .implied, some 3, false, .stack, .official⟩ :=
  (rfl : _ = opcodeRow 0x08).trans rfl
@[simp] theorem row_oraImm (b : Byte) : (.oraImm b : Instr).row = ⟨"ORA", .immediate, some 2, false, .read, .official⟩ :=
  (rfl : _ = opcodeRow 0x09).trans rfl
@[simp] theorem row_aslAcc : (.aslAcc : Instr).row = ⟨"ASL", .accumulator, some 2, false, .none, .official⟩ :=
  (rfl : _ = opcodeRow 0x0A).trans rfl
@[simp] theorem row_anc0B (b : Byte) : (.anc0B b : Instr).row = ⟨"*ANC", .immediate, some 2, false, .read, .stable⟩ :=
  (rfl : _ = opcodeRow 0x0B).trans rfl
@[simp] theorem row_nop0C (w : Addr) : (.nop0C w : Instr).row = ⟨"*NOP", .absolute, some 4, false, .read, .stable⟩ :=
  (rfl : _ = opcodeRow 0x0C).trans rfl
@[simp] theorem row_oraAbs (w : Addr) : (.oraAbs w : Instr).row = ⟨"ORA", .absolute, some 4, false, .read, .official⟩ :=
  (rfl : _ = opcodeRow 0x0D).trans rfl
@[simp] theorem row_aslAbs (w : Addr) : (.aslAbs w : Instr).row = ⟨"ASL", .absolute, some 6, false, .rmw, .official⟩ :=
  (rfl : _ = opcodeRow 0x0E).trans rfl
@[simp] theorem row_sloAbs (w : Addr) : (.sloAbs w : Instr).row = ⟨"*SLO", .absolute, some 6, false, .rmw, .stable⟩ :=
  (rfl : _ = opcodeRow 0x0F).trans rfl
@[simp] theorem row_bpl (b : Byte) : (.bpl b : Instr).row = ⟨"BPL", .relative, some 2, false, .branch, .official⟩ :=
  (rfl : _ = opcodeRow 0x10).trans rfl
@[simp] theorem row_oraIndY (b : Byte) : (.oraIndY b : Instr).row = ⟨"ORA", .indirectIndexed, some 5, true, .read, .official⟩ :=
  (rfl : _ = opcodeRow 0x11).trans rfl
@[simp] theorem row_jam12 : (.jam12 : Instr).row = ⟨"*JAM", .implied, none, false, .none, .jam⟩ :=
  (rfl : _ = opcodeRow 0x12).trans rfl
@[simp] theorem row_sloIndY (b : Byte) : (.sloIndY b : Instr).row = ⟨"*SLO", .indirectIndexed, some 8, false, .rmw, .stable⟩ :=
  (rfl : _ = opcodeRow 0x13).trans rfl
@[simp] theorem row_nop14 (b : Byte) : (.nop14 b : Instr).row = ⟨"*NOP", .zeroPageX, some 4, false, .read, .stable⟩ :=
  (rfl : _ = opcodeRow 0x14).trans rfl
@[simp] theorem row_oraZpX (b : Byte) : (.oraZpX b : Instr).row = ⟨"ORA", .zeroPageX, some 4, false, .read, .official⟩ :=
  (rfl : _ = opcodeRow 0x15).trans rfl
@[simp] theorem row_aslZpX (b : Byte) : (.aslZpX b : Instr).row = ⟨"ASL", .zeroPageX, some 6, false, .rmw, .official⟩ :=
  (rfl : _ = opcodeRow 0x16).trans rfl
@[simp] theorem row_sloZpX (b : Byte) : (.sloZpX b : Instr).row = ⟨"*SLO", .zeroPageX, some 6, false, .rmw, .stable⟩ :=
  (rfl : _ = opcodeRow 0x17).trans rfl
@[simp] theorem row_clc : (.clc : Instr).row = ⟨"CLC", .implied, some 2, false, .none, .official⟩ :=
  (rfl : _ = opcodeRow 0x18).trans rfl
@[simp] theorem row_oraAbsY (w : Addr) : (.oraAbsY w : Instr).row = ⟨"ORA", .absoluteY, some 4, true, .read, .official⟩ :=
  (rfl : _ = opcodeRow 0x19).trans rfl
@[simp] theorem row_nop1A : (.nop1A : Instr).row = ⟨"*NOP", .implied, some 2, false, .none, .stable⟩ :=
  (rfl : _ = opcodeRow 0x1A).trans rfl
@[simp] theorem row_sloAbsY (w : Addr) : (.sloAbsY w : Instr).row = ⟨"*SLO", .absoluteY, some 7, false, .rmw, .stable⟩ :=
  (rfl : _ = opcodeRow 0x1B).trans rfl
@[simp] theorem row_nop1C (w : Addr) : (.nop1C w : Instr).row = ⟨"*NOP", .absoluteX, some 4, true, .read, .stable⟩ :=
  (rfl : _ = opcodeRow 0x1C).trans rfl
@[simp] theorem row_oraAbsX (w : Addr) : (.oraAbsX w : Instr).row = ⟨"ORA", .absoluteX, some 4, true, .read, .official⟩ :=
  (rfl : _ = opcodeRow 0x1D).trans rfl
@[simp] theorem row_aslAbsX (w : Addr) : (.aslAbsX w : Instr).row = ⟨"ASL", .absoluteX, some 7, false, .rmw, .official⟩ :=
  (rfl : _ = opcodeRow 0x1E).trans rfl
@[simp] theorem row_sloAbsX (w : Addr) : (.sloAbsX w : Instr).row = ⟨"*SLO", .absoluteX, some 7, false, .rmw, .stable⟩ :=
  (rfl : _ = opcodeRow 0x1F).trans rfl
@[simp] theorem row_jsr (w : Addr) : (.jsr w : Instr).row = ⟨"JSR", .absolute, some 6, false, .jump, .official⟩ :=
  (rfl : _ = opcodeRow 0x20).trans rfl
@[simp] theorem row_andIndX (b : Byte) : (.andIndX b : Instr).row = ⟨"AND", .indexedIndirect, some 6, false, .read, .official⟩ :=
  (rfl : _ = opcodeRow 0x21).trans rfl
@[simp] theorem row_jam22 : (.jam22 : Instr).row = ⟨"*JAM", .implied, none, false, .none, .jam⟩ :=
  (rfl : _ = opcodeRow 0x22).trans rfl
@[simp] theorem row_rlaIndX (b : Byte) : (.rlaIndX b : Instr).row = ⟨"*RLA", .indexedIndirect, some 8, false, .rmw, .stable⟩ :=
  (rfl : _ = opcodeRow 0x23).trans rfl
@[simp] theorem row_bitZp (b : Byte) : (.bitZp b : Instr).row = ⟨"BIT", .zeroPage, some 3, false, .read, .official⟩ :=
  (rfl : _ = opcodeRow 0x24).trans rfl
@[simp] theorem row_andZp (b : Byte) : (.andZp b : Instr).row = ⟨"AND", .zeroPage, some 3, false, .read, .official⟩ :=
  (rfl : _ = opcodeRow 0x25).trans rfl
@[simp] theorem row_rolZp (b : Byte) : (.rolZp b : Instr).row = ⟨"ROL", .zeroPage, some 5, false, .rmw, .official⟩ :=
  (rfl : _ = opcodeRow 0x26).trans rfl
@[simp] theorem row_rlaZp (b : Byte) : (.rlaZp b : Instr).row = ⟨"*RLA", .zeroPage, some 5, false, .rmw, .stable⟩ :=
  (rfl : _ = opcodeRow 0x27).trans rfl
@[simp] theorem row_plp : (.plp : Instr).row = ⟨"PLP", .implied, some 4, false, .stack, .official⟩ :=
  (rfl : _ = opcodeRow 0x28).trans rfl
@[simp] theorem row_andImm (b : Byte) : (.andImm b : Instr).row = ⟨"AND", .immediate, some 2, false, .read, .official⟩ :=
  (rfl : _ = opcodeRow 0x29).trans rfl
@[simp] theorem row_rolAcc : (.rolAcc : Instr).row = ⟨"ROL", .accumulator, some 2, false, .none, .official⟩ :=
  (rfl : _ = opcodeRow 0x2A).trans rfl
@[simp] theorem row_anc2B (b : Byte) : (.anc2B b : Instr).row = ⟨"*ANC", .immediate, some 2, false, .read, .stable⟩ :=
  (rfl : _ = opcodeRow 0x2B).trans rfl
@[simp] theorem row_bitAbs (w : Addr) : (.bitAbs w : Instr).row = ⟨"BIT", .absolute, some 4, false, .read, .official⟩ :=
  (rfl : _ = opcodeRow 0x2C).trans rfl
@[simp] theorem row_andAbs (w : Addr) : (.andAbs w : Instr).row = ⟨"AND", .absolute, some 4, false, .read, .official⟩ :=
  (rfl : _ = opcodeRow 0x2D).trans rfl
@[simp] theorem row_rolAbs (w : Addr) : (.rolAbs w : Instr).row = ⟨"ROL", .absolute, some 6, false, .rmw, .official⟩ :=
  (rfl : _ = opcodeRow 0x2E).trans rfl
@[simp] theorem row_rlaAbs (w : Addr) : (.rlaAbs w : Instr).row = ⟨"*RLA", .absolute, some 6, false, .rmw, .stable⟩ :=
  (rfl : _ = opcodeRow 0x2F).trans rfl
@[simp] theorem row_bmi (b : Byte) : (.bmi b : Instr).row = ⟨"BMI", .relative, some 2, false, .branch, .official⟩ :=
  (rfl : _ = opcodeRow 0x30).trans rfl
@[simp] theorem row_andIndY (b : Byte) : (.andIndY b : Instr).row = ⟨"AND", .indirectIndexed, some 5, true, .read, .official⟩ :=
  (rfl : _ = opcodeRow 0x31).trans rfl
@[simp] theorem row_jam32 : (.jam32 : Instr).row = ⟨"*JAM", .implied, none, false, .none, .jam⟩ :=
  (rfl : _ = opcodeRow 0x32).trans rfl
@[simp] theorem row_rlaIndY (b : Byte) : (.rlaIndY b : Instr).row = ⟨"*RLA", .indirectIndexed, some 8, false, .rmw, .stable⟩ :=
  (rfl : _ = opcodeRow 0x33).trans rfl
@[simp] theorem row_nop34 (b : Byte) : (.nop34 b : Instr).row = ⟨"*NOP", .zeroPageX, some 4, false, .read, .stable⟩ :=
  (rfl : _ = opcodeRow 0x34).trans rfl
@[simp] theorem row_andZpX (b : Byte) : (.andZpX b : Instr).row = ⟨"AND", .zeroPageX, some 4, false, .read, .official⟩ :=
  (rfl : _ = opcodeRow 0x35).trans rfl
@[simp] theorem row_rolZpX (b : Byte) : (.rolZpX b : Instr).row = ⟨"ROL", .zeroPageX, some 6, false, .rmw, .official⟩ :=
  (rfl : _ = opcodeRow 0x36).trans rfl
@[simp] theorem row_rlaZpX (b : Byte) : (.rlaZpX b : Instr).row = ⟨"*RLA", .zeroPageX, some 6, false, .rmw, .stable⟩ :=
  (rfl : _ = opcodeRow 0x37).trans rfl
@[simp] theorem row_sec : (.sec : Instr).row = ⟨"SEC", .implied, some 2, false, .none, .official⟩ :=
  (rfl : _ = opcodeRow 0x38).trans rfl
@[simp] theorem row_andAbsY (w : Addr) : (.andAbsY w : Instr).row = ⟨"AND", .absoluteY, some 4, true, .read, .official⟩ :=
  (rfl : _ = opcodeRow 0x39).trans rfl
@[simp] theorem row_nop3A : (.nop3A : Instr).row = ⟨"*NOP", .implied, some 2, false, .none, .stable⟩ :=
  (rfl : _ = opcodeRow 0x3A).trans rfl
@[simp] theorem row_rlaAbsY (w : Addr) : (.rlaAbsY w : Instr).row = ⟨"*RLA", .absoluteY, some 7, false, .rmw, .stable⟩ :=
  (rfl : _ = opcodeRow 0x3B).trans rfl
@[simp] theorem row_nop3C (w : Addr) : (.nop3C w : Instr).row = ⟨"*NOP", .absoluteX, some 4, true, .read, .stable⟩ :=
  (rfl : _ = opcodeRow 0x3C).trans rfl
@[simp] theorem row_andAbsX (w : Addr) : (.andAbsX w : Instr).row = ⟨"AND", .absoluteX, some 4, true, .read, .official⟩ :=
  (rfl : _ = opcodeRow 0x3D).trans rfl
@[simp] theorem row_rolAbsX (w : Addr) : (.rolAbsX w : Instr).row = ⟨"ROL", .absoluteX, some 7, false, .rmw, .official⟩ :=
  (rfl : _ = opcodeRow 0x3E).trans rfl
@[simp] theorem row_rlaAbsX (w : Addr) : (.rlaAbsX w : Instr).row = ⟨"*RLA", .absoluteX, some 7, false, .rmw, .stable⟩ :=
  (rfl : _ = opcodeRow 0x3F).trans rfl
@[simp] theorem row_rti : (.rti : Instr).row = ⟨"RTI", .implied, some 6, false, .stack, .official⟩ :=
  (rfl : _ = opcodeRow 0x40).trans rfl
@[simp] theorem row_eorIndX (b : Byte) : (.eorIndX b : Instr).row = ⟨"EOR", .indexedIndirect, some 6, false, .read, .official⟩ :=
  (rfl : _ = opcodeRow 0x41).trans rfl
@[simp] theorem row_jam42 : (.jam42 : Instr).row = ⟨"*JAM", .implied, none, false, .none, .jam⟩ :=
  (rfl : _ = opcodeRow 0x42).trans rfl
@[simp] theorem row_sreIndX (b : Byte) : (.sreIndX b : Instr).row = ⟨"*SRE", .indexedIndirect, some 8, false, .rmw, .stable⟩ :=
  (rfl : _ = opcodeRow 0x43).trans rfl
@[simp] theorem row_nop44 (b : Byte) : (.nop44 b : Instr).row = ⟨"*NOP", .zeroPage, some 3, false, .read, .stable⟩ :=
  (rfl : _ = opcodeRow 0x44).trans rfl
@[simp] theorem row_eorZp (b : Byte) : (.eorZp b : Instr).row = ⟨"EOR", .zeroPage, some 3, false, .read, .official⟩ :=
  (rfl : _ = opcodeRow 0x45).trans rfl
@[simp] theorem row_lsrZp (b : Byte) : (.lsrZp b : Instr).row = ⟨"LSR", .zeroPage, some 5, false, .rmw, .official⟩ :=
  (rfl : _ = opcodeRow 0x46).trans rfl
@[simp] theorem row_sreZp (b : Byte) : (.sreZp b : Instr).row = ⟨"*SRE", .zeroPage, some 5, false, .rmw, .stable⟩ :=
  (rfl : _ = opcodeRow 0x47).trans rfl
@[simp] theorem row_pha : (.pha : Instr).row = ⟨"PHA", .implied, some 3, false, .stack, .official⟩ :=
  (rfl : _ = opcodeRow 0x48).trans rfl
@[simp] theorem row_eorImm (b : Byte) : (.eorImm b : Instr).row = ⟨"EOR", .immediate, some 2, false, .read, .official⟩ :=
  (rfl : _ = opcodeRow 0x49).trans rfl
@[simp] theorem row_lsrAcc : (.lsrAcc : Instr).row = ⟨"LSR", .accumulator, some 2, false, .none, .official⟩ :=
  (rfl : _ = opcodeRow 0x4A).trans rfl
@[simp] theorem row_alr (b : Byte) : (.alr b : Instr).row = ⟨"*ALR", .immediate, some 2, false, .read, .stable⟩ :=
  (rfl : _ = opcodeRow 0x4B).trans rfl
@[simp] theorem row_jmpAbs (w : Addr) : (.jmpAbs w : Instr).row = ⟨"JMP", .absolute, some 3, false, .jump, .official⟩ :=
  (rfl : _ = opcodeRow 0x4C).trans rfl
@[simp] theorem row_eorAbs (w : Addr) : (.eorAbs w : Instr).row = ⟨"EOR", .absolute, some 4, false, .read, .official⟩ :=
  (rfl : _ = opcodeRow 0x4D).trans rfl
@[simp] theorem row_lsrAbs (w : Addr) : (.lsrAbs w : Instr).row = ⟨"LSR", .absolute, some 6, false, .rmw, .official⟩ :=
  (rfl : _ = opcodeRow 0x4E).trans rfl
@[simp] theorem row_sreAbs (w : Addr) : (.sreAbs w : Instr).row = ⟨"*SRE", .absolute, some 6, false, .rmw, .stable⟩ :=
  (rfl : _ = opcodeRow 0x4F).trans rfl
@[simp] theorem row_bvc (b : Byte) : (.bvc b : Instr).row = ⟨"BVC", .relative, some 2, false, .branch, .official⟩ :=
  (rfl : _ = opcodeRow 0x50).trans rfl
@[simp] theorem row_eorIndY (b : Byte) : (.eorIndY b : Instr).row = ⟨"EOR", .indirectIndexed, some 5, true, .read, .official⟩ :=
  (rfl : _ = opcodeRow 0x51).trans rfl
@[simp] theorem row_jam52 : (.jam52 : Instr).row = ⟨"*JAM", .implied, none, false, .none, .jam⟩ :=
  (rfl : _ = opcodeRow 0x52).trans rfl
@[simp] theorem row_sreIndY (b : Byte) : (.sreIndY b : Instr).row = ⟨"*SRE", .indirectIndexed, some 8, false, .rmw, .stable⟩ :=
  (rfl : _ = opcodeRow 0x53).trans rfl
@[simp] theorem row_nop54 (b : Byte) : (.nop54 b : Instr).row = ⟨"*NOP", .zeroPageX, some 4, false, .read, .stable⟩ :=
  (rfl : _ = opcodeRow 0x54).trans rfl
@[simp] theorem row_eorZpX (b : Byte) : (.eorZpX b : Instr).row = ⟨"EOR", .zeroPageX, some 4, false, .read, .official⟩ :=
  (rfl : _ = opcodeRow 0x55).trans rfl
@[simp] theorem row_lsrZpX (b : Byte) : (.lsrZpX b : Instr).row = ⟨"LSR", .zeroPageX, some 6, false, .rmw, .official⟩ :=
  (rfl : _ = opcodeRow 0x56).trans rfl
@[simp] theorem row_sreZpX (b : Byte) : (.sreZpX b : Instr).row = ⟨"*SRE", .zeroPageX, some 6, false, .rmw, .stable⟩ :=
  (rfl : _ = opcodeRow 0x57).trans rfl
@[simp] theorem row_cli : (.cli : Instr).row = ⟨"CLI", .implied, some 2, false, .none, .official⟩ :=
  (rfl : _ = opcodeRow 0x58).trans rfl
@[simp] theorem row_eorAbsY (w : Addr) : (.eorAbsY w : Instr).row = ⟨"EOR", .absoluteY, some 4, true, .read, .official⟩ :=
  (rfl : _ = opcodeRow 0x59).trans rfl
@[simp] theorem row_nop5A : (.nop5A : Instr).row = ⟨"*NOP", .implied, some 2, false, .none, .stable⟩ :=
  (rfl : _ = opcodeRow 0x5A).trans rfl
@[simp] theorem row_sreAbsY (w : Addr) : (.sreAbsY w : Instr).row = ⟨"*SRE", .absoluteY, some 7, false, .rmw, .stable⟩ :=
  (rfl : _ = opcodeRow 0x5B).trans rfl
@[simp] theorem row_nop5C (w : Addr) : (.nop5C w : Instr).row = ⟨"*NOP", .absoluteX, some 4, true, .read, .stable⟩ :=
  (rfl : _ = opcodeRow 0x5C).trans rfl
@[simp] theorem row_eorAbsX (w : Addr) : (.eorAbsX w : Instr).row = ⟨"EOR", .absoluteX, some 4, true, .read, .official⟩ :=
  (rfl : _ = opcodeRow 0x5D).trans rfl
@[simp] theorem row_lsrAbsX (w : Addr) : (.lsrAbsX w : Instr).row = ⟨"LSR", .absoluteX, some 7, false, .rmw, .official⟩ :=
  (rfl : _ = opcodeRow 0x5E).trans rfl
@[simp] theorem row_sreAbsX (w : Addr) : (.sreAbsX w : Instr).row = ⟨"*SRE", .absoluteX, some 7, false, .rmw, .stable⟩ :=
  (rfl : _ = opcodeRow 0x5F).trans rfl
@[simp] theorem row_rts : (.rts : Instr).row = ⟨"RTS", .implied, some 6, false, .stack, .official⟩ :=
  (rfl : _ = opcodeRow 0x60).trans rfl
@[simp] theorem row_adcIndX (b : Byte) : (.adcIndX b : Instr).row = ⟨"ADC", .indexedIndirect, some 6, false, .read, .official⟩ :=
  (rfl : _ = opcodeRow 0x61).trans rfl
@[simp] theorem row_jam62 : (.jam62 : Instr).row = ⟨"*JAM", .implied, none, false, .none, .jam⟩ :=
  (rfl : _ = opcodeRow 0x62).trans rfl
@[simp] theorem row_rraIndX (b : Byte) : (.rraIndX b : Instr).row = ⟨"*RRA", .indexedIndirect, some 8, false, .rmw, .stable⟩ :=
  (rfl : _ = opcodeRow 0x63).trans rfl
@[simp] theorem row_nop64 (b : Byte) : (.nop64 b : Instr).row = ⟨"*NOP", .zeroPage, some 3, false, .read, .stable⟩ :=
  (rfl : _ = opcodeRow 0x64).trans rfl
@[simp] theorem row_adcZp (b : Byte) : (.adcZp b : Instr).row = ⟨"ADC", .zeroPage, some 3, false, .read, .official⟩ :=
  (rfl : _ = opcodeRow 0x65).trans rfl
@[simp] theorem row_rorZp (b : Byte) : (.rorZp b : Instr).row = ⟨"ROR", .zeroPage, some 5, false, .rmw, .official⟩ :=
  (rfl : _ = opcodeRow 0x66).trans rfl
@[simp] theorem row_rraZp (b : Byte) : (.rraZp b : Instr).row = ⟨"*RRA", .zeroPage, some 5, false, .rmw, .stable⟩ :=
  (rfl : _ = opcodeRow 0x67).trans rfl
@[simp] theorem row_pla : (.pla : Instr).row = ⟨"PLA", .implied, some 4, false, .stack, .official⟩ :=
  (rfl : _ = opcodeRow 0x68).trans rfl
@[simp] theorem row_adcImm (b : Byte) : (.adcImm b : Instr).row = ⟨"ADC", .immediate, some 2, false, .read, .official⟩ :=
  (rfl : _ = opcodeRow 0x69).trans rfl
@[simp] theorem row_rorAcc : (.rorAcc : Instr).row = ⟨"ROR", .accumulator, some 2, false, .none, .official⟩ :=
  (rfl : _ = opcodeRow 0x6A).trans rfl
@[simp] theorem row_arr (b : Byte) : (.arr b : Instr).row = ⟨"*ARR", .immediate, some 2, false, .read, .stable⟩ :=
  (rfl : _ = opcodeRow 0x6B).trans rfl
@[simp] theorem row_jmpInd (w : Addr) : (.jmpInd w : Instr).row = ⟨"JMP", .indirect, some 5, false, .jump, .official⟩ :=
  (rfl : _ = opcodeRow 0x6C).trans rfl
@[simp] theorem row_adcAbs (w : Addr) : (.adcAbs w : Instr).row = ⟨"ADC", .absolute, some 4, false, .read, .official⟩ :=
  (rfl : _ = opcodeRow 0x6D).trans rfl
@[simp] theorem row_rorAbs (w : Addr) : (.rorAbs w : Instr).row = ⟨"ROR", .absolute, some 6, false, .rmw, .official⟩ :=
  (rfl : _ = opcodeRow 0x6E).trans rfl
@[simp] theorem row_rraAbs (w : Addr) : (.rraAbs w : Instr).row = ⟨"*RRA", .absolute, some 6, false, .rmw, .stable⟩ :=
  (rfl : _ = opcodeRow 0x6F).trans rfl
@[simp] theorem row_bvs (b : Byte) : (.bvs b : Instr).row = ⟨"BVS", .relative, some 2, false, .branch, .official⟩ :=
  (rfl : _ = opcodeRow 0x70).trans rfl
@[simp] theorem row_adcIndY (b : Byte) : (.adcIndY b : Instr).row = ⟨"ADC", .indirectIndexed, some 5, true, .read, .official⟩ :=
  (rfl : _ = opcodeRow 0x71).trans rfl
@[simp] theorem row_jam72 : (.jam72 : Instr).row = ⟨"*JAM", .implied, none, false, .none, .jam⟩ :=
  (rfl : _ = opcodeRow 0x72).trans rfl
@[simp] theorem row_rraIndY (b : Byte) : (.rraIndY b : Instr).row = ⟨"*RRA", .indirectIndexed, some 8, false, .rmw, .stable⟩ :=
  (rfl : _ = opcodeRow 0x73).trans rfl
@[simp] theorem row_nop74 (b : Byte) : (.nop74 b : Instr).row = ⟨"*NOP", .zeroPageX, some 4, false, .read, .stable⟩ :=
  (rfl : _ = opcodeRow 0x74).trans rfl
@[simp] theorem row_adcZpX (b : Byte) : (.adcZpX b : Instr).row = ⟨"ADC", .zeroPageX, some 4, false, .read, .official⟩ :=
  (rfl : _ = opcodeRow 0x75).trans rfl
@[simp] theorem row_rorZpX (b : Byte) : (.rorZpX b : Instr).row = ⟨"ROR", .zeroPageX, some 6, false, .rmw, .official⟩ :=
  (rfl : _ = opcodeRow 0x76).trans rfl
@[simp] theorem row_rraZpX (b : Byte) : (.rraZpX b : Instr).row = ⟨"*RRA", .zeroPageX, some 6, false, .rmw, .stable⟩ :=
  (rfl : _ = opcodeRow 0x77).trans rfl
@[simp] theorem row_sei : (.sei : Instr).row = ⟨"SEI", .implied, some 2, false, .none, .official⟩ :=
  (rfl : _ = opcodeRow 0x78).trans rfl
@[simp] theorem row_adcAbsY (w : Addr) : (.adcAbsY w : Instr).row = ⟨"ADC", .absoluteY, some 4, true, .read, .official⟩ :=
  (rfl : _ = opcodeRow 0x79).trans rfl
@[simp] theorem row_nop7A : (.nop7A : Instr).row = ⟨"*NOP", .implied, some 2, false, .none, .stable⟩ :=
  (rfl : _ = opcodeRow 0x7A).trans rfl
@[simp] theorem row_rraAbsY (w : Addr) : (.rraAbsY w : Instr).row = ⟨"*RRA", .absoluteY, some 7, false, .rmw, .stable⟩ :=
  (rfl : _ = opcodeRow 0x7B).trans rfl
@[simp] theorem row_nop7C (w : Addr) : (.nop7C w : Instr).row = ⟨"*NOP", .absoluteX, some 4, true, .read, .stable⟩ :=
  (rfl : _ = opcodeRow 0x7C).trans rfl
@[simp] theorem row_adcAbsX (w : Addr) : (.adcAbsX w : Instr).row = ⟨"ADC", .absoluteX, some 4, true, .read, .official⟩ :=
  (rfl : _ = opcodeRow 0x7D).trans rfl
@[simp] theorem row_rorAbsX (w : Addr) : (.rorAbsX w : Instr).row = ⟨"ROR", .absoluteX, some 7, false, .rmw, .official⟩ :=
  (rfl : _ = opcodeRow 0x7E).trans rfl
@[simp] theorem row_rraAbsX (w : Addr) : (.rraAbsX w : Instr).row = ⟨"*RRA", .absoluteX, some 7, false, .rmw, .stable⟩ :=
  (rfl : _ = opcodeRow 0x7F).trans rfl
@[simp] theorem row_nop80 (b : Byte) : (.nop80 b : Instr).row = ⟨"*NOP", .immediate, some 2, false, .read, .stable⟩ :=
  (rfl : _ = opcodeRow 0x80).trans rfl
@[simp] theorem row_staIndX (b : Byte) : (.staIndX b : Instr).row = ⟨"STA", .indexedIndirect, some 6, false, .write, .official⟩ :=
  (rfl : _ = opcodeRow 0x81).trans rfl
@[simp] theorem row_nop82 (b : Byte) : (.nop82 b : Instr).row = ⟨"*NOP", .immediate, some 2, false, .read, .stable⟩ :=
  (rfl : _ = opcodeRow 0x82).trans rfl
@[simp] theorem row_saxIndX (b : Byte) : (.saxIndX b : Instr).row = ⟨"*SAX", .indexedIndirect, some 6, false, .write, .stable⟩ :=
  (rfl : _ = opcodeRow 0x83).trans rfl
@[simp] theorem row_styZp (b : Byte) : (.styZp b : Instr).row = ⟨"STY", .zeroPage, some 3, false, .write, .official⟩ :=
  (rfl : _ = opcodeRow 0x84).trans rfl
@[simp] theorem row_staZp (b : Byte) : (.staZp b : Instr).row = ⟨"STA", .zeroPage, some 3, false, .write, .official⟩ :=
  (rfl : _ = opcodeRow 0x85).trans rfl
@[simp] theorem row_stxZp (b : Byte) : (.stxZp b : Instr).row = ⟨"STX", .zeroPage, some 3, false, .write, .official⟩ :=
  (rfl : _ = opcodeRow 0x86).trans rfl
@[simp] theorem row_saxZp (b : Byte) : (.saxZp b : Instr).row = ⟨"*SAX", .zeroPage, some 3, false, .write, .stable⟩ :=
  (rfl : _ = opcodeRow 0x87).trans rfl
@[simp] theorem row_dey : (.dey : Instr).row = ⟨"DEY", .implied, some 2, false, .none, .official⟩ :=
  (rfl : _ = opcodeRow 0x88).trans rfl
@[simp] theorem row_nop89 (b : Byte) : (.nop89 b : Instr).row = ⟨"*NOP", .immediate, some 2, false, .read, .stable⟩ :=
  (rfl : _ = opcodeRow 0x89).trans rfl
@[simp] theorem row_txa : (.txa : Instr).row = ⟨"TXA", .implied, some 2, false, .none, .official⟩ :=
  (rfl : _ = opcodeRow 0x8A).trans rfl
@[simp] theorem row_ane (b : Byte) : (.ane b : Instr).row = ⟨"*ANE", .immediate, some 2, false, .read, .unstable⟩ :=
  (rfl : _ = opcodeRow 0x8B).trans rfl
@[simp] theorem row_styAbs (w : Addr) : (.styAbs w : Instr).row = ⟨"STY", .absolute, some 4, false, .write, .official⟩ :=
  (rfl : _ = opcodeRow 0x8C).trans rfl
@[simp] theorem row_staAbs (w : Addr) : (.staAbs w : Instr).row = ⟨"STA", .absolute, some 4, false, .write, .official⟩ :=
  (rfl : _ = opcodeRow 0x8D).trans rfl
@[simp] theorem row_stxAbs (w : Addr) : (.stxAbs w : Instr).row = ⟨"STX", .absolute, some 4, false, .write, .official⟩ :=
  (rfl : _ = opcodeRow 0x8E).trans rfl
@[simp] theorem row_saxAbs (w : Addr) : (.saxAbs w : Instr).row = ⟨"*SAX", .absolute, some 4, false, .write, .stable⟩ :=
  (rfl : _ = opcodeRow 0x8F).trans rfl
@[simp] theorem row_bcc (b : Byte) : (.bcc b : Instr).row = ⟨"BCC", .relative, some 2, false, .branch, .official⟩ :=
  (rfl : _ = opcodeRow 0x90).trans rfl
@[simp] theorem row_staIndY (b : Byte) : (.staIndY b : Instr).row = ⟨"STA", .indirectIndexed, some 6, false, .write, .official⟩ :=
  (rfl : _ = opcodeRow 0x91).trans rfl
@[simp] theorem row_jam92 : (.jam92 : Instr).row = ⟨"*JAM", .implied, none, false, .none, .jam⟩ :=
  (rfl : _ = opcodeRow 0x92).trans rfl
@[simp] theorem row_shaIndY (b : Byte) : (.shaIndY b : Instr).row = ⟨"*SHA", .indirectIndexed, some 6, false, .write, .unstable⟩ :=
  (rfl : _ = opcodeRow 0x93).trans rfl
@[simp] theorem row_styZpX (b : Byte) : (.styZpX b : Instr).row = ⟨"STY", .zeroPageX, some 4, false, .write, .official⟩ :=
  (rfl : _ = opcodeRow 0x94).trans rfl
@[simp] theorem row_staZpX (b : Byte) : (.staZpX b : Instr).row = ⟨"STA", .zeroPageX, some 4, false, .write, .official⟩ :=
  (rfl : _ = opcodeRow 0x95).trans rfl
@[simp] theorem row_stxZpY (b : Byte) : (.stxZpY b : Instr).row = ⟨"STX", .zeroPageY, some 4, false, .write, .official⟩ :=
  (rfl : _ = opcodeRow 0x96).trans rfl
@[simp] theorem row_saxZpY (b : Byte) : (.saxZpY b : Instr).row = ⟨"*SAX", .zeroPageY, some 4, false, .write, .stable⟩ :=
  (rfl : _ = opcodeRow 0x97).trans rfl
@[simp] theorem row_tya : (.tya : Instr).row = ⟨"TYA", .implied, some 2, false, .none, .official⟩ :=
  (rfl : _ = opcodeRow 0x98).trans rfl
@[simp] theorem row_staAbsY (w : Addr) : (.staAbsY w : Instr).row = ⟨"STA", .absoluteY, some 5, false, .write, .official⟩ :=
  (rfl : _ = opcodeRow 0x99).trans rfl
@[simp] theorem row_txs : (.txs : Instr).row = ⟨"TXS", .implied, some 2, false, .none, .official⟩ :=
  (rfl : _ = opcodeRow 0x9A).trans rfl
@[simp] theorem row_tas (w : Addr) : (.tas w : Instr).row = ⟨"*TAS", .absoluteY, some 5, false, .write, .unstable⟩ :=
  (rfl : _ = opcodeRow 0x9B).trans rfl
@[simp] theorem row_shy (w : Addr) : (.shy w : Instr).row = ⟨"*SHY", .absoluteX, some 5, false, .write, .unstable⟩ :=
  (rfl : _ = opcodeRow 0x9C).trans rfl
@[simp] theorem row_staAbsX (w : Addr) : (.staAbsX w : Instr).row = ⟨"STA", .absoluteX, some 5, false, .write, .official⟩ :=
  (rfl : _ = opcodeRow 0x9D).trans rfl
@[simp] theorem row_shx (w : Addr) : (.shx w : Instr).row = ⟨"*SHX", .absoluteY, some 5, false, .write, .unstable⟩ :=
  (rfl : _ = opcodeRow 0x9E).trans rfl
@[simp] theorem row_shaAbsY (w : Addr) : (.shaAbsY w : Instr).row = ⟨"*SHA", .absoluteY, some 5, false, .write, .unstable⟩ :=
  (rfl : _ = opcodeRow 0x9F).trans rfl
@[simp] theorem row_ldyImm (b : Byte) : (.ldyImm b : Instr).row = ⟨"LDY", .immediate, some 2, false, .read, .official⟩ :=
  (rfl : _ = opcodeRow 0xA0).trans rfl
@[simp] theorem row_ldaIndX (b : Byte) : (.ldaIndX b : Instr).row = ⟨"LDA", .indexedIndirect, some 6, false, .read, .official⟩ :=
  (rfl : _ = opcodeRow 0xA1).trans rfl
@[simp] theorem row_ldxImm (b : Byte) : (.ldxImm b : Instr).row = ⟨"LDX", .immediate, some 2, false, .read, .official⟩ :=
  (rfl : _ = opcodeRow 0xA2).trans rfl
@[simp] theorem row_laxIndX (b : Byte) : (.laxIndX b : Instr).row = ⟨"*LAX", .indexedIndirect, some 6, false, .read, .stable⟩ :=
  (rfl : _ = opcodeRow 0xA3).trans rfl
@[simp] theorem row_ldyZp (b : Byte) : (.ldyZp b : Instr).row = ⟨"LDY", .zeroPage, some 3, false, .read, .official⟩ :=
  (rfl : _ = opcodeRow 0xA4).trans rfl
@[simp] theorem row_ldaZp (b : Byte) : (.ldaZp b : Instr).row = ⟨"LDA", .zeroPage, some 3, false, .read, .official⟩ :=
  (rfl : _ = opcodeRow 0xA5).trans rfl
@[simp] theorem row_ldxZp (b : Byte) : (.ldxZp b : Instr).row = ⟨"LDX", .zeroPage, some 3, false, .read, .official⟩ :=
  (rfl : _ = opcodeRow 0xA6).trans rfl
@[simp] theorem row_laxZp (b : Byte) : (.laxZp b : Instr).row = ⟨"*LAX", .zeroPage, some 3, false, .read, .stable⟩ :=
  (rfl : _ = opcodeRow 0xA7).trans rfl
@[simp] theorem row_tay : (.tay : Instr).row = ⟨"TAY", .implied, some 2, false, .none, .official⟩ :=
  (rfl : _ = opcodeRow 0xA8).trans rfl
@[simp] theorem row_ldaImm (b : Byte) : (.ldaImm b : Instr).row = ⟨"LDA", .immediate, some 2, false, .read, .official⟩ :=
  (rfl : _ = opcodeRow 0xA9).trans rfl
@[simp] theorem row_tax : (.tax : Instr).row = ⟨"TAX", .implied, some 2, false, .none, .official⟩ :=
  (rfl : _ = opcodeRow 0xAA).trans rfl
@[simp] theorem row_lxa (b : Byte) : (.lxa b : Instr).row = ⟨"*LXA", .immediate, some 2, false, .read, .unstable⟩ :=
  (rfl : _ = opcodeRow 0xAB).trans rfl
@[simp] theorem row_ldyAbs (w : Addr) : (.ldyAbs w : Instr).row = ⟨"LDY", .absolute, some 4, false, .read, .official⟩ :=
  (rfl : _ = opcodeRow 0xAC).trans rfl
@[simp] theorem row_ldaAbs (w : Addr) : (.ldaAbs w : Instr).row = ⟨"LDA", .absolute, some 4, false, .read, .official⟩ :=
  (rfl : _ = opcodeRow 0xAD).trans rfl
@[simp] theorem row_ldxAbs (w : Addr) : (.ldxAbs w : Instr).row = ⟨"LDX", .absolute, some 4, false, .read, .official⟩ :=
  (rfl : _ = opcodeRow 0xAE).trans rfl
@[simp] theorem row_laxAbs (w : Addr) : (.laxAbs w : Instr).row = ⟨"*LAX", .absolute, some 4, false, .read, .stable⟩ :=
  (rfl : _ = opcodeRow 0xAF).trans rfl
@[simp] theorem row_bcs (b : Byte) : (.bcs b : Instr).row = ⟨"BCS", .relative, some 2, false, .branch, .official⟩ :=
  (rfl : _ = opcodeRow 0xB0).trans rfl
@[simp] theorem row_ldaIndY (b : Byte) : (.ldaIndY b : Instr).row = ⟨"LDA", .indirectIndexed, some 5, true, .read, .official⟩ :=
  (rfl : _ = opcodeRow 0xB1).trans rfl
@[simp] theorem row_jamB2 : (.jamB2 : Instr).row = ⟨"*JAM", .implied, none, false, .none, .jam⟩ :=
  (rfl : _ = opcodeRow 0xB2).trans rfl
@[simp] theorem row_laxIndY (b : Byte) : (.laxIndY b : Instr).row = ⟨"*LAX", .indirectIndexed, some 5, true, .read, .stable⟩ :=
  (rfl : _ = opcodeRow 0xB3).trans rfl
@[simp] theorem row_ldyZpX (b : Byte) : (.ldyZpX b : Instr).row = ⟨"LDY", .zeroPageX, some 4, false, .read, .official⟩ :=
  (rfl : _ = opcodeRow 0xB4).trans rfl
@[simp] theorem row_ldaZpX (b : Byte) : (.ldaZpX b : Instr).row = ⟨"LDA", .zeroPageX, some 4, false, .read, .official⟩ :=
  (rfl : _ = opcodeRow 0xB5).trans rfl
@[simp] theorem row_ldxZpY (b : Byte) : (.ldxZpY b : Instr).row = ⟨"LDX", .zeroPageY, some 4, false, .read, .official⟩ :=
  (rfl : _ = opcodeRow 0xB6).trans rfl
@[simp] theorem row_laxZpY (b : Byte) : (.laxZpY b : Instr).row = ⟨"*LAX", .zeroPageY, some 4, false, .read, .stable⟩ :=
  (rfl : _ = opcodeRow 0xB7).trans rfl
@[simp] theorem row_clv : (.clv : Instr).row = ⟨"CLV", .implied, some 2, false, .none, .official⟩ :=
  (rfl : _ = opcodeRow 0xB8).trans rfl
@[simp] theorem row_ldaAbsY (w : Addr) : (.ldaAbsY w : Instr).row = ⟨"LDA", .absoluteY, some 4, true, .read, .official⟩ :=
  (rfl : _ = opcodeRow 0xB9).trans rfl
@[simp] theorem row_tsx : (.tsx : Instr).row = ⟨"TSX", .implied, some 2, false, .none, .official⟩ :=
  (rfl : _ = opcodeRow 0xBA).trans rfl
@[simp] theorem row_las (w : Addr) : (.las w : Instr).row = ⟨"*LAS", .absoluteY, some 4, true, .read, .stable⟩ :=
  (rfl : _ = opcodeRow 0xBB).trans rfl
@[simp] theorem row_ldyAbsX (w : Addr) : (.ldyAbsX w : Instr).row = ⟨"LDY", .absoluteX, some 4, true, .read, .official⟩ :=
  (rfl : _ = opcodeRow 0xBC).trans rfl
@[simp] theorem row_ldaAbsX (w : Addr) : (.ldaAbsX w : Instr).row = ⟨"LDA", .absoluteX, some 4, true, .read, .official⟩ :=
  (rfl : _ = opcodeRow 0xBD).trans rfl
@[simp] theorem row_ldxAbsY (w : Addr) : (.ldxAbsY w : Instr).row = ⟨"LDX", .absoluteY, some 4, true, .read, .official⟩ :=
  (rfl : _ = opcodeRow 0xBE).trans rfl
@[simp] theorem row_laxAbsY (w : Addr) : (.laxAbsY w : Instr).row = ⟨"*LAX", .absoluteY, some 4, true, .read, .stable⟩ :=
  (rfl : _ = opcodeRow 0xBF).trans rfl
@[simp] theorem row_cpyImm (b : Byte) : (.cpyImm b : Instr).row = ⟨"CPY", .immediate, some 2, false, .read, .official⟩ :=
  (rfl : _ = opcodeRow 0xC0).trans rfl
@[simp] theorem row_cmpIndX (b : Byte) : (.cmpIndX b : Instr).row = ⟨"CMP", .indexedIndirect, some 6, false, .read, .official⟩ :=
  (rfl : _ = opcodeRow 0xC1).trans rfl
@[simp] theorem row_nopC2 (b : Byte) : (.nopC2 b : Instr).row = ⟨"*NOP", .immediate, some 2, false, .read, .stable⟩ :=
  (rfl : _ = opcodeRow 0xC2).trans rfl
@[simp] theorem row_dcpIndX (b : Byte) : (.dcpIndX b : Instr).row = ⟨"*DCP", .indexedIndirect, some 8, false, .rmw, .stable⟩ :=
  (rfl : _ = opcodeRow 0xC3).trans rfl
@[simp] theorem row_cpyZp (b : Byte) : (.cpyZp b : Instr).row = ⟨"CPY", .zeroPage, some 3, false, .read, .official⟩ :=
  (rfl : _ = opcodeRow 0xC4).trans rfl
@[simp] theorem row_cmpZp (b : Byte) : (.cmpZp b : Instr).row = ⟨"CMP", .zeroPage, some 3, false, .read, .official⟩ :=
  (rfl : _ = opcodeRow 0xC5).trans rfl
@[simp] theorem row_decZp (b : Byte) : (.decZp b : Instr).row = ⟨"DEC", .zeroPage, some 5, false, .rmw, .official⟩ :=
  (rfl : _ = opcodeRow 0xC6).trans rfl
@[simp] theorem row_dcpZp (b : Byte) : (.dcpZp b : Instr).row = ⟨"*DCP", .zeroPage, some 5, false, .rmw, .stable⟩ :=
  (rfl : _ = opcodeRow 0xC7).trans rfl
@[simp] theorem row_iny : (.iny : Instr).row = ⟨"INY", .implied, some 2, false, .none, .official⟩ :=
  (rfl : _ = opcodeRow 0xC8).trans rfl
@[simp] theorem row_cmpImm (b : Byte) : (.cmpImm b : Instr).row = ⟨"CMP", .immediate, some 2, false, .read, .official⟩ :=
  (rfl : _ = opcodeRow 0xC9).trans rfl
@[simp] theorem row_dex : (.dex : Instr).row = ⟨"DEX", .implied, some 2, false, .none, .official⟩ :=
  (rfl : _ = opcodeRow 0xCA).trans rfl
@[simp] theorem row_axs (b : Byte) : (.axs b : Instr).row = ⟨"*AXS", .immediate, some 2, false, .read, .stable⟩ :=
  (rfl : _ = opcodeRow 0xCB).trans rfl
@[simp] theorem row_cpyAbs (w : Addr) : (.cpyAbs w : Instr).row = ⟨"CPY", .absolute, some 4, false, .read, .official⟩ :=
  (rfl : _ = opcodeRow 0xCC).trans rfl
@[simp] theorem row_cmpAbs (w : Addr) : (.cmpAbs w : Instr).row = ⟨"CMP", .absolute, some 4, false, .read, .official⟩ :=
  (rfl : _ = opcodeRow 0xCD).trans rfl
@[simp] theorem row_decAbs (w : Addr) : (.decAbs w : Instr).row = ⟨"DEC", .absolute, some 6, false, .rmw, .official⟩ :=
  (rfl : _ = opcodeRow 0xCE).trans rfl
@[simp] theorem row_dcpAbs (w : Addr) : (.dcpAbs w : Instr).row = ⟨"*DCP", .absolute, some 6, false, .rmw, .stable⟩ :=
  (rfl : _ = opcodeRow 0xCF).trans rfl
@[simp] theorem row_bne (b : Byte) : (.bne b : Instr).row = ⟨"BNE", .relative, some 2, false, .branch, .official⟩ :=
  (rfl : _ = opcodeRow 0xD0).trans rfl
@[simp] theorem row_cmpIndY (b : Byte) : (.cmpIndY b : Instr).row = ⟨"CMP", .indirectIndexed, some 5, true, .read, .official⟩ :=
  (rfl : _ = opcodeRow 0xD1).trans rfl
@[simp] theorem row_jamD2 : (.jamD2 : Instr).row = ⟨"*JAM", .implied, none, false, .none, .jam⟩ :=
  (rfl : _ = opcodeRow 0xD2).trans rfl
@[simp] theorem row_dcpIndY (b : Byte) : (.dcpIndY b : Instr).row = ⟨"*DCP", .indirectIndexed, some 8, false, .rmw, .stable⟩ :=
  (rfl : _ = opcodeRow 0xD3).trans rfl
@[simp] theorem row_nopD4 (b : Byte) : (.nopD4 b : Instr).row = ⟨"*NOP", .zeroPageX, some 4, false, .read, .stable⟩ :=
  (rfl : _ = opcodeRow 0xD4).trans rfl
@[simp] theorem row_cmpZpX (b : Byte) : (.cmpZpX b : Instr).row = ⟨"CMP", .zeroPageX, some 4, false, .read, .official⟩ :=
  (rfl : _ = opcodeRow 0xD5).trans rfl
@[simp] theorem row_decZpX (b : Byte) : (.decZpX b : Instr).row = ⟨"DEC", .zeroPageX, some 6, false, .rmw, .official⟩ :=
  (rfl : _ = opcodeRow 0xD6).trans rfl
@[simp] theorem row_dcpZpX (b : Byte) : (.dcpZpX b : Instr).row = ⟨"*DCP", .zeroPageX, some 6, false, .rmw, .stable⟩ :=
  (rfl : _ = opcodeRow 0xD7).trans rfl
@[simp] theorem row_cld : (.cld : Instr).row = ⟨"CLD", .implied, some 2, false, .none, .official⟩ :=
  (rfl : _ = opcodeRow 0xD8).trans rfl
@[simp] theorem row_cmpAbsY (w : Addr) : (.cmpAbsY w : Instr).row = ⟨"CMP", .absoluteY, some 4, true, .read, .official⟩ :=
  (rfl : _ = opcodeRow 0xD9).trans rfl
@[simp] theorem row_nopDA : (.nopDA : Instr).row = ⟨"*NOP", .implied, some 2, false, .none, .stable⟩ :=
  (rfl : _ = opcodeRow 0xDA).trans rfl
@[simp] theorem row_dcpAbsY (w : Addr) : (.dcpAbsY w : Instr).row = ⟨"*DCP", .absoluteY, some 7, false, .rmw, .stable⟩ :=
  (rfl : _ = opcodeRow 0xDB).trans rfl
@[simp] theorem row_nopDC (w : Addr) : (.nopDC w : Instr).row = ⟨"*NOP", .absoluteX, some 4, true, .read, .stable⟩ :=
  (rfl : _ = opcodeRow 0xDC).trans rfl
@[simp] theorem row_cmpAbsX (w : Addr) : (.cmpAbsX w : Instr).row = ⟨"CMP", .absoluteX, some 4, true, .read, .official⟩ :=
  (rfl : _ = opcodeRow 0xDD).trans rfl
@[simp] theorem row_decAbsX (w : Addr) : (.decAbsX w : Instr).row = ⟨"DEC", .absoluteX, some 7, false, .rmw, .official⟩ :=
  (rfl : _ = opcodeRow 0xDE).trans rfl
@[simp] theorem row_dcpAbsX (w : Addr) : (.dcpAbsX w : Instr).row = ⟨"*DCP", .absoluteX, some 7, false, .rmw, .stable⟩ :=
  (rfl : _ = opcodeRow 0xDF).trans rfl
@[simp] theorem row_cpxImm (b : Byte) : (.cpxImm b : Instr).row = ⟨"CPX", .immediate, some 2, false, .read, .official⟩ :=
  (rfl : _ = opcodeRow 0xE0).trans rfl
@[simp] theorem row_sbcIndX (b : Byte) : (.sbcIndX b : Instr).row = ⟨"SBC", .indexedIndirect, some 6, false, .read, .official⟩ :=
  (rfl : _ = opcodeRow 0xE1).trans rfl
@[simp] theorem row_nopE2 (b : Byte) : (.nopE2 b : Instr).row = ⟨"*NOP", .immediate, some 2, false, .read, .stable⟩ :=
  (rfl : _ = opcodeRow 0xE2).trans rfl
@[simp] theorem row_iscIndX (b : Byte) : (.iscIndX b : Instr).row = ⟨"*ISC", .indexedIndirect, some 8, false, .rmw, .stable⟩ :=
  (rfl : _ = opcodeRow 0xE3).trans rfl
@[simp] theorem row_cpxZp (b : Byte) : (.cpxZp b : Instr).row = ⟨"CPX", .zeroPage, some 3, false, .read, .official⟩ :=
  (rfl : _ = opcodeRow 0xE4).trans rfl
@[simp] theorem row_sbcZp (b : Byte) : (.sbcZp b : Instr).row = ⟨"SBC", .zeroPage, some 3, false, .read, .official⟩ :=
  (rfl : _ = opcodeRow 0xE5).trans rfl
@[simp] theorem row_incZp (b : Byte) : (.incZp b : Instr).row = ⟨"INC", .zeroPage, some 5, false, .rmw, .official⟩ :=
  (rfl : _ = opcodeRow 0xE6).trans rfl
@[simp] theorem row_iscZp (b : Byte) : (.iscZp b : Instr).row = ⟨"*ISC", .zeroPage, some 5, false, .rmw, .stable⟩ :=
  (rfl : _ = opcodeRow 0xE7).trans rfl
@[simp] theorem row_inx : (.inx : Instr).row = ⟨"INX", .implied, some 2, false, .none, .official⟩ :=
  (rfl : _ = opcodeRow 0xE8).trans rfl
@[simp] theorem row_sbcImm (b : Byte) : (.sbcImm b : Instr).row = ⟨"SBC", .immediate, some 2, false, .read, .official⟩ :=
  (rfl : _ = opcodeRow 0xE9).trans rfl
@[simp] theorem row_nop : (.nop : Instr).row = ⟨"NOP", .implied, some 2, false, .none, .official⟩ :=
  (rfl : _ = opcodeRow 0xEA).trans rfl
@[simp] theorem row_sbcEB (b : Byte) : (.sbcEB b : Instr).row = ⟨"*SBC", .immediate, some 2, false, .read, .stable⟩ :=
  (rfl : _ = opcodeRow 0xEB).trans rfl
@[simp] theorem row_cpxAbs (w : Addr) : (.cpxAbs w : Instr).row = ⟨"CPX", .absolute, some 4, false, .read, .official⟩ :=
  (rfl : _ = opcodeRow 0xEC).trans rfl
@[simp] theorem row_sbcAbs (w : Addr) : (.sbcAbs w : Instr).row = ⟨"SBC", .absolute, some 4, false, .read, .official⟩ :=
  (rfl : _ = opcodeRow 0xED).trans rfl
@[simp] theorem row_incAbs (w : Addr) : (.incAbs w : Instr).row = ⟨"INC", .absolute, some 6, false, .rmw, .official⟩ :=
  (rfl : _ = opcodeRow 0xEE).trans rfl
@[simp] theorem row_iscAbs (w : Addr) : (.iscAbs w : Instr).row = ⟨"*ISC", .absolute, some 6, false, .rmw, .stable⟩ :=
  (rfl : _ = opcodeRow 0xEF).trans rfl
@[simp] theorem row_beq (b : Byte) : (.beq b : Instr).row = ⟨"BEQ", .relative, some 2, false, .branch, .official⟩ :=
  (rfl : _ = opcodeRow 0xF0).trans rfl
@[simp] theorem row_sbcIndY (b : Byte) : (.sbcIndY b : Instr).row = ⟨"SBC", .indirectIndexed, some 5, true, .read, .official⟩ :=
  (rfl : _ = opcodeRow 0xF1).trans rfl
@[simp] theorem row_jamF2 : (.jamF2 : Instr).row = ⟨"*JAM", .implied, none, false, .none, .jam⟩ :=
  (rfl : _ = opcodeRow 0xF2).trans rfl
@[simp] theorem row_iscIndY (b : Byte) : (.iscIndY b : Instr).row = ⟨"*ISC", .indirectIndexed, some 8, false, .rmw, .stable⟩ :=
  (rfl : _ = opcodeRow 0xF3).trans rfl
@[simp] theorem row_nopF4 (b : Byte) : (.nopF4 b : Instr).row = ⟨"*NOP", .zeroPageX, some 4, false, .read, .stable⟩ :=
  (rfl : _ = opcodeRow 0xF4).trans rfl
@[simp] theorem row_sbcZpX (b : Byte) : (.sbcZpX b : Instr).row = ⟨"SBC", .zeroPageX, some 4, false, .read, .official⟩ :=
  (rfl : _ = opcodeRow 0xF5).trans rfl
@[simp] theorem row_incZpX (b : Byte) : (.incZpX b : Instr).row = ⟨"INC", .zeroPageX, some 6, false, .rmw, .official⟩ :=
  (rfl : _ = opcodeRow 0xF6).trans rfl
@[simp] theorem row_iscZpX (b : Byte) : (.iscZpX b : Instr).row = ⟨"*ISC", .zeroPageX, some 6, false, .rmw, .stable⟩ :=
  (rfl : _ = opcodeRow 0xF7).trans rfl
@[simp] theorem row_sed : (.sed : Instr).row = ⟨"SED", .implied, some 2, false, .none, .official⟩ :=
  (rfl : _ = opcodeRow 0xF8).trans rfl
@[simp] theorem row_sbcAbsY (w : Addr) : (.sbcAbsY w : Instr).row = ⟨"SBC", .absoluteY, some 4, true, .read, .official⟩ :=
  (rfl : _ = opcodeRow 0xF9).trans rfl
@[simp] theorem row_nopFA : (.nopFA : Instr).row = ⟨"*NOP", .implied, some 2, false, .none, .stable⟩ :=
  (rfl : _ = opcodeRow 0xFA).trans rfl
@[simp] theorem row_iscAbsY (w : Addr) : (.iscAbsY w : Instr).row = ⟨"*ISC", .absoluteY, some 7, false, .rmw, .stable⟩ :=
  (rfl : _ = opcodeRow 0xFB).trans rfl
@[simp] theorem row_nopFC (w : Addr) : (.nopFC w : Instr).row = ⟨"*NOP", .absoluteX, some 4, true, .read, .stable⟩ :=
  (rfl : _ = opcodeRow 0xFC).trans rfl
@[simp] theorem row_sbcAbsX (w : Addr) : (.sbcAbsX w : Instr).row = ⟨"SBC", .absoluteX, some 4, true, .read, .official⟩ :=
  (rfl : _ = opcodeRow 0xFD).trans rfl
@[simp] theorem row_incAbsX (w : Addr) : (.incAbsX w : Instr).row = ⟨"INC", .absoluteX, some 7, false, .rmw, .official⟩ :=
  (rfl : _ = opcodeRow 0xFE).trans rfl
@[simp] theorem row_iscAbsX (w : Addr) : (.iscAbsX w : Instr).row = ⟨"*ISC", .absoluteX, some 7, false, .rmw, .stable⟩ :=
  (rfl : _ = opcodeRow 0xFF).trans rfl

end Sys2Proof
end

