-- ==== Sys2Proof/Laws/PerInstr.lean ====
section
/-! SUPPORT. The family `WellFormedRow`: of every instruction, that its row of the opcode table keeps the laws the spec states
of all rows and that its encoding is as long as its row says (30_encoding.md R82, 40_addressing.md R112 to R115). -/

namespace Sys2Proof.Laws.WellFormedRow

open Sys2Proof

/-- The instruction is well formed. -/
def Statement (i : Instr) : Prop := i.wellFormed = true

/-- From the instruction's row. -/
theorem of_row {i : Instr} {r : Row} (h : i.row = r) (hr : (r.wellFormed && r.fits (encode i)) = true) : Statement i := by
  unfold Statement Instr.wellFormed; rw [h]; exact hr

theorem brk : Statement .brk := of_row (row_brk) rfl
theorem oraIndX (b : Byte) : Statement (.oraIndX b) := of_row (row_oraIndX b) rfl
theorem jam02 : Statement .jam02 := of_row (row_jam02) rfl
theorem sloIndX (b : Byte) : Statement (.sloIndX b) := of_row (row_sloIndX b) rfl
theorem nop04 (b : Byte) : Statement (.nop04 b) := of_row (row_nop04 b) rfl
theorem oraZp (b : Byte) : Statement (.oraZp b) := of_row (row_oraZp b) rfl
theorem aslZp (b : Byte) : Statement (.aslZp b) := of_row (row_aslZp b) rfl
theorem sloZp (b : Byte) : Statement (.sloZp b) := of_row (row_sloZp b) rfl
theorem php : Statement .php := of_row (row_php) rfl
theorem oraImm (b : Byte) : Statement (.oraImm b) := of_row (row_oraImm b) rfl
theorem aslAcc : Statement .aslAcc := of_row (row_aslAcc) rfl
theorem anc0B (b : Byte) : Statement (.anc0B b) := of_row (row_anc0B b) rfl
theorem nop0C (w : Addr) : Statement (.nop0C w) := of_row (row_nop0C w) rfl
theorem oraAbs (w : Addr) : Statement (.oraAbs w) := of_row (row_oraAbs w) rfl
theorem aslAbs (w : Addr) : Statement (.aslAbs w) := of_row (row_aslAbs w) rfl
theorem sloAbs (w : Addr) : Statement (.sloAbs w) := of_row (row_sloAbs w) rfl
theorem bpl (b : Byte) : Statement (.bpl b) := of_row (row_bpl b) rfl
theorem oraIndY (b : Byte) : Statement (.oraIndY b) := of_row (row_oraIndY b) rfl
theorem jam12 : Statement .jam12 := of_row (row_jam12) rfl
theorem sloIndY (b : Byte) : Statement (.sloIndY b) := of_row (row_sloIndY b) rfl
theorem nop14 (b : Byte) : Statement (.nop14 b) := of_row (row_nop14 b) rfl
theorem oraZpX (b : Byte) : Statement (.oraZpX b) := of_row (row_oraZpX b) rfl
theorem aslZpX (b : Byte) : Statement (.aslZpX b) := of_row (row_aslZpX b) rfl
theorem sloZpX (b : Byte) : Statement (.sloZpX b) := of_row (row_sloZpX b) rfl
theorem clc : Statement .clc := of_row (row_clc) rfl
theorem oraAbsY (w : Addr) : Statement (.oraAbsY w) := of_row (row_oraAbsY w) rfl
theorem nop1A : Statement .nop1A := of_row (row_nop1A) rfl
theorem sloAbsY (w : Addr) : Statement (.sloAbsY w) := of_row (row_sloAbsY w) rfl
theorem nop1C (w : Addr) : Statement (.nop1C w) := of_row (row_nop1C w) rfl
theorem oraAbsX (w : Addr) : Statement (.oraAbsX w) := of_row (row_oraAbsX w) rfl
theorem aslAbsX (w : Addr) : Statement (.aslAbsX w) := of_row (row_aslAbsX w) rfl
theorem sloAbsX (w : Addr) : Statement (.sloAbsX w) := of_row (row_sloAbsX w) rfl
theorem jsr (w : Addr) : Statement (.jsr w) := of_row (row_jsr w) rfl
theorem andIndX (b : Byte) : Statement (.andIndX b) := of_row (row_andIndX b) rfl
theorem jam22 : Statement .jam22 := of_row (row_jam22) rfl
theorem rlaIndX (b : Byte) : Statement (.rlaIndX b) := of_row (row_rlaIndX b) rfl
theorem bitZp (b : Byte) : Statement (.bitZp b) := of_row (row_bitZp b) rfl
theorem andZp (b : Byte) : Statement (.andZp b) := of_row (row_andZp b) rfl
theorem rolZp (b : Byte) : Statement (.rolZp b) := of_row (row_rolZp b) rfl
theorem rlaZp (b : Byte) : Statement (.rlaZp b) := of_row (row_rlaZp b) rfl
theorem plp : Statement .plp := of_row (row_plp) rfl
theorem andImm (b : Byte) : Statement (.andImm b) := of_row (row_andImm b) rfl
theorem rolAcc : Statement .rolAcc := of_row (row_rolAcc) rfl
theorem anc2B (b : Byte) : Statement (.anc2B b) := of_row (row_anc2B b) rfl
theorem bitAbs (w : Addr) : Statement (.bitAbs w) := of_row (row_bitAbs w) rfl
theorem andAbs (w : Addr) : Statement (.andAbs w) := of_row (row_andAbs w) rfl
theorem rolAbs (w : Addr) : Statement (.rolAbs w) := of_row (row_rolAbs w) rfl
theorem rlaAbs (w : Addr) : Statement (.rlaAbs w) := of_row (row_rlaAbs w) rfl
theorem bmi (b : Byte) : Statement (.bmi b) := of_row (row_bmi b) rfl
theorem andIndY (b : Byte) : Statement (.andIndY b) := of_row (row_andIndY b) rfl
theorem jam32 : Statement .jam32 := of_row (row_jam32) rfl
theorem rlaIndY (b : Byte) : Statement (.rlaIndY b) := of_row (row_rlaIndY b) rfl
theorem nop34 (b : Byte) : Statement (.nop34 b) := of_row (row_nop34 b) rfl
theorem andZpX (b : Byte) : Statement (.andZpX b) := of_row (row_andZpX b) rfl
theorem rolZpX (b : Byte) : Statement (.rolZpX b) := of_row (row_rolZpX b) rfl
theorem rlaZpX (b : Byte) : Statement (.rlaZpX b) := of_row (row_rlaZpX b) rfl
theorem sec : Statement .sec := of_row (row_sec) rfl
theorem andAbsY (w : Addr) : Statement (.andAbsY w) := of_row (row_andAbsY w) rfl
theorem nop3A : Statement .nop3A := of_row (row_nop3A) rfl
theorem rlaAbsY (w : Addr) : Statement (.rlaAbsY w) := of_row (row_rlaAbsY w) rfl
theorem nop3C (w : Addr) : Statement (.nop3C w) := of_row (row_nop3C w) rfl
theorem andAbsX (w : Addr) : Statement (.andAbsX w) := of_row (row_andAbsX w) rfl
theorem rolAbsX (w : Addr) : Statement (.rolAbsX w) := of_row (row_rolAbsX w) rfl
theorem rlaAbsX (w : Addr) : Statement (.rlaAbsX w) := of_row (row_rlaAbsX w) rfl
theorem rti : Statement .rti := of_row (row_rti) rfl
theorem eorIndX (b : Byte) : Statement (.eorIndX b) := of_row (row_eorIndX b) rfl
theorem jam42 : Statement .jam42 := of_row (row_jam42) rfl
theorem sreIndX (b : Byte) : Statement (.sreIndX b) := of_row (row_sreIndX b) rfl
theorem nop44 (b : Byte) : Statement (.nop44 b) := of_row (row_nop44 b) rfl
theorem eorZp (b : Byte) : Statement (.eorZp b) := of_row (row_eorZp b) rfl
theorem lsrZp (b : Byte) : Statement (.lsrZp b) := of_row (row_lsrZp b) rfl
theorem sreZp (b : Byte) : Statement (.sreZp b) := of_row (row_sreZp b) rfl
theorem pha : Statement .pha := of_row (row_pha) rfl
theorem eorImm (b : Byte) : Statement (.eorImm b) := of_row (row_eorImm b) rfl
theorem lsrAcc : Statement .lsrAcc := of_row (row_lsrAcc) rfl
theorem alr (b : Byte) : Statement (.alr b) := of_row (row_alr b) rfl
theorem jmpAbs (w : Addr) : Statement (.jmpAbs w) := of_row (row_jmpAbs w) rfl
theorem eorAbs (w : Addr) : Statement (.eorAbs w) := of_row (row_eorAbs w) rfl
theorem lsrAbs (w : Addr) : Statement (.lsrAbs w) := of_row (row_lsrAbs w) rfl
theorem sreAbs (w : Addr) : Statement (.sreAbs w) := of_row (row_sreAbs w) rfl
theorem bvc (b : Byte) : Statement (.bvc b) := of_row (row_bvc b) rfl
theorem eorIndY (b : Byte) : Statement (.eorIndY b) := of_row (row_eorIndY b) rfl
theorem jam52 : Statement .jam52 := of_row (row_jam52) rfl
theorem sreIndY (b : Byte) : Statement (.sreIndY b) := of_row (row_sreIndY b) rfl
theorem nop54 (b : Byte) : Statement (.nop54 b) := of_row (row_nop54 b) rfl
theorem eorZpX (b : Byte) : Statement (.eorZpX b) := of_row (row_eorZpX b) rfl
theorem lsrZpX (b : Byte) : Statement (.lsrZpX b) := of_row (row_lsrZpX b) rfl
theorem sreZpX (b : Byte) : Statement (.sreZpX b) := of_row (row_sreZpX b) rfl
theorem cli : Statement .cli := of_row (row_cli) rfl
theorem eorAbsY (w : Addr) : Statement (.eorAbsY w) := of_row (row_eorAbsY w) rfl
theorem nop5A : Statement .nop5A := of_row (row_nop5A) rfl
theorem sreAbsY (w : Addr) : Statement (.sreAbsY w) := of_row (row_sreAbsY w) rfl
theorem nop5C (w : Addr) : Statement (.nop5C w) := of_row (row_nop5C w) rfl
theorem eorAbsX (w : Addr) : Statement (.eorAbsX w) := of_row (row_eorAbsX w) rfl
theorem lsrAbsX (w : Addr) : Statement (.lsrAbsX w) := of_row (row_lsrAbsX w) rfl
theorem sreAbsX (w : Addr) : Statement (.sreAbsX w) := of_row (row_sreAbsX w) rfl
theorem rts : Statement .rts := of_row (row_rts) rfl
theorem adcIndX (b : Byte) : Statement (.adcIndX b) := of_row (row_adcIndX b) rfl
theorem jam62 : Statement .jam62 := of_row (row_jam62) rfl
theorem rraIndX (b : Byte) : Statement (.rraIndX b) := of_row (row_rraIndX b) rfl
theorem nop64 (b : Byte) : Statement (.nop64 b) := of_row (row_nop64 b) rfl
theorem adcZp (b : Byte) : Statement (.adcZp b) := of_row (row_adcZp b) rfl
theorem rorZp (b : Byte) : Statement (.rorZp b) := of_row (row_rorZp b) rfl
theorem rraZp (b : Byte) : Statement (.rraZp b) := of_row (row_rraZp b) rfl
theorem pla : Statement .pla := of_row (row_pla) rfl
theorem adcImm (b : Byte) : Statement (.adcImm b) := of_row (row_adcImm b) rfl
theorem rorAcc : Statement .rorAcc := of_row (row_rorAcc) rfl
theorem arr (b : Byte) : Statement (.arr b) := of_row (row_arr b) rfl
theorem jmpInd (w : Addr) : Statement (.jmpInd w) := of_row (row_jmpInd w) rfl
theorem adcAbs (w : Addr) : Statement (.adcAbs w) := of_row (row_adcAbs w) rfl
theorem rorAbs (w : Addr) : Statement (.rorAbs w) := of_row (row_rorAbs w) rfl
theorem rraAbs (w : Addr) : Statement (.rraAbs w) := of_row (row_rraAbs w) rfl
theorem bvs (b : Byte) : Statement (.bvs b) := of_row (row_bvs b) rfl
theorem adcIndY (b : Byte) : Statement (.adcIndY b) := of_row (row_adcIndY b) rfl
theorem jam72 : Statement .jam72 := of_row (row_jam72) rfl
theorem rraIndY (b : Byte) : Statement (.rraIndY b) := of_row (row_rraIndY b) rfl
theorem nop74 (b : Byte) : Statement (.nop74 b) := of_row (row_nop74 b) rfl
theorem adcZpX (b : Byte) : Statement (.adcZpX b) := of_row (row_adcZpX b) rfl
theorem rorZpX (b : Byte) : Statement (.rorZpX b) := of_row (row_rorZpX b) rfl
theorem rraZpX (b : Byte) : Statement (.rraZpX b) := of_row (row_rraZpX b) rfl
theorem sei : Statement .sei := of_row (row_sei) rfl
theorem adcAbsY (w : Addr) : Statement (.adcAbsY w) := of_row (row_adcAbsY w) rfl
theorem nop7A : Statement .nop7A := of_row (row_nop7A) rfl
theorem rraAbsY (w : Addr) : Statement (.rraAbsY w) := of_row (row_rraAbsY w) rfl
theorem nop7C (w : Addr) : Statement (.nop7C w) := of_row (row_nop7C w) rfl
theorem adcAbsX (w : Addr) : Statement (.adcAbsX w) := of_row (row_adcAbsX w) rfl
theorem rorAbsX (w : Addr) : Statement (.rorAbsX w) := of_row (row_rorAbsX w) rfl
theorem rraAbsX (w : Addr) : Statement (.rraAbsX w) := of_row (row_rraAbsX w) rfl
theorem nop80 (b : Byte) : Statement (.nop80 b) := of_row (row_nop80 b) rfl
theorem staIndX (b : Byte) : Statement (.staIndX b) := of_row (row_staIndX b) rfl
theorem nop82 (b : Byte) : Statement (.nop82 b) := of_row (row_nop82 b) rfl
theorem saxIndX (b : Byte) : Statement (.saxIndX b) := of_row (row_saxIndX b) rfl
theorem styZp (b : Byte) : Statement (.styZp b) := of_row (row_styZp b) rfl
theorem staZp (b : Byte) : Statement (.staZp b) := of_row (row_staZp b) rfl
theorem stxZp (b : Byte) : Statement (.stxZp b) := of_row (row_stxZp b) rfl
theorem saxZp (b : Byte) : Statement (.saxZp b) := of_row (row_saxZp b) rfl
theorem dey : Statement .dey := of_row (row_dey) rfl
theorem nop89 (b : Byte) : Statement (.nop89 b) := of_row (row_nop89 b) rfl
theorem txa : Statement .txa := of_row (row_txa) rfl
theorem ane (b : Byte) : Statement (.ane b) := of_row (row_ane b) rfl
theorem styAbs (w : Addr) : Statement (.styAbs w) := of_row (row_styAbs w) rfl
theorem staAbs (w : Addr) : Statement (.staAbs w) := of_row (row_staAbs w) rfl
theorem stxAbs (w : Addr) : Statement (.stxAbs w) := of_row (row_stxAbs w) rfl
theorem saxAbs (w : Addr) : Statement (.saxAbs w) := of_row (row_saxAbs w) rfl
theorem bcc (b : Byte) : Statement (.bcc b) := of_row (row_bcc b) rfl
theorem staIndY (b : Byte) : Statement (.staIndY b) := of_row (row_staIndY b) rfl
theorem jam92 : Statement .jam92 := of_row (row_jam92) rfl
theorem shaIndY (b : Byte) : Statement (.shaIndY b) := of_row (row_shaIndY b) rfl
theorem styZpX (b : Byte) : Statement (.styZpX b) := of_row (row_styZpX b) rfl
theorem staZpX (b : Byte) : Statement (.staZpX b) := of_row (row_staZpX b) rfl
theorem stxZpY (b : Byte) : Statement (.stxZpY b) := of_row (row_stxZpY b) rfl
theorem saxZpY (b : Byte) : Statement (.saxZpY b) := of_row (row_saxZpY b) rfl
theorem tya : Statement .tya := of_row (row_tya) rfl
theorem staAbsY (w : Addr) : Statement (.staAbsY w) := of_row (row_staAbsY w) rfl
theorem txs : Statement .txs := of_row (row_txs) rfl
theorem tas (w : Addr) : Statement (.tas w) := of_row (row_tas w) rfl
theorem shy (w : Addr) : Statement (.shy w) := of_row (row_shy w) rfl
theorem staAbsX (w : Addr) : Statement (.staAbsX w) := of_row (row_staAbsX w) rfl
theorem shx (w : Addr) : Statement (.shx w) := of_row (row_shx w) rfl
theorem shaAbsY (w : Addr) : Statement (.shaAbsY w) := of_row (row_shaAbsY w) rfl
theorem ldyImm (b : Byte) : Statement (.ldyImm b) := of_row (row_ldyImm b) rfl
theorem ldaIndX (b : Byte) : Statement (.ldaIndX b) := of_row (row_ldaIndX b) rfl
theorem ldxImm (b : Byte) : Statement (.ldxImm b) := of_row (row_ldxImm b) rfl
theorem laxIndX (b : Byte) : Statement (.laxIndX b) := of_row (row_laxIndX b) rfl
theorem ldyZp (b : Byte) : Statement (.ldyZp b) := of_row (row_ldyZp b) rfl
theorem ldaZp (b : Byte) : Statement (.ldaZp b) := of_row (row_ldaZp b) rfl
theorem ldxZp (b : Byte) : Statement (.ldxZp b) := of_row (row_ldxZp b) rfl
theorem laxZp (b : Byte) : Statement (.laxZp b) := of_row (row_laxZp b) rfl
theorem tay : Statement .tay := of_row (row_tay) rfl
theorem ldaImm (b : Byte) : Statement (.ldaImm b) := of_row (row_ldaImm b) rfl
theorem tax : Statement .tax := of_row (row_tax) rfl
theorem lxa (b : Byte) : Statement (.lxa b) := of_row (row_lxa b) rfl
theorem ldyAbs (w : Addr) : Statement (.ldyAbs w) := of_row (row_ldyAbs w) rfl
theorem ldaAbs (w : Addr) : Statement (.ldaAbs w) := of_row (row_ldaAbs w) rfl
theorem ldxAbs (w : Addr) : Statement (.ldxAbs w) := of_row (row_ldxAbs w) rfl
theorem laxAbs (w : Addr) : Statement (.laxAbs w) := of_row (row_laxAbs w) rfl
theorem bcs (b : Byte) : Statement (.bcs b) := of_row (row_bcs b) rfl
theorem ldaIndY (b : Byte) : Statement (.ldaIndY b) := of_row (row_ldaIndY b) rfl
theorem jamB2 : Statement .jamB2 := of_row (row_jamB2) rfl
theorem laxIndY (b : Byte) : Statement (.laxIndY b) := of_row (row_laxIndY b) rfl
theorem ldyZpX (b : Byte) : Statement (.ldyZpX b) := of_row (row_ldyZpX b) rfl
theorem ldaZpX (b : Byte) : Statement (.ldaZpX b) := of_row (row_ldaZpX b) rfl
theorem ldxZpY (b : Byte) : Statement (.ldxZpY b) := of_row (row_ldxZpY b) rfl
theorem laxZpY (b : Byte) : Statement (.laxZpY b) := of_row (row_laxZpY b) rfl
theorem clv : Statement .clv := of_row (row_clv) rfl
theorem ldaAbsY (w : Addr) : Statement (.ldaAbsY w) := of_row (row_ldaAbsY w) rfl
theorem tsx : Statement .tsx := of_row (row_tsx) rfl
theorem las (w : Addr) : Statement (.las w) := of_row (row_las w) rfl
theorem ldyAbsX (w : Addr) : Statement (.ldyAbsX w) := of_row (row_ldyAbsX w) rfl
theorem ldaAbsX (w : Addr) : Statement (.ldaAbsX w) := of_row (row_ldaAbsX w) rfl
theorem ldxAbsY (w : Addr) : Statement (.ldxAbsY w) := of_row (row_ldxAbsY w) rfl
theorem laxAbsY (w : Addr) : Statement (.laxAbsY w) := of_row (row_laxAbsY w) rfl
theorem cpyImm (b : Byte) : Statement (.cpyImm b) := of_row (row_cpyImm b) rfl
theorem cmpIndX (b : Byte) : Statement (.cmpIndX b) := of_row (row_cmpIndX b) rfl
theorem nopC2 (b : Byte) : Statement (.nopC2 b) := of_row (row_nopC2 b) rfl
theorem dcpIndX (b : Byte) : Statement (.dcpIndX b) := of_row (row_dcpIndX b) rfl
theorem cpyZp (b : Byte) : Statement (.cpyZp b) := of_row (row_cpyZp b) rfl
theorem cmpZp (b : Byte) : Statement (.cmpZp b) := of_row (row_cmpZp b) rfl
theorem decZp (b : Byte) : Statement (.decZp b) := of_row (row_decZp b) rfl
theorem dcpZp (b : Byte) : Statement (.dcpZp b) := of_row (row_dcpZp b) rfl
theorem iny : Statement .iny := of_row (row_iny) rfl
theorem cmpImm (b : Byte) : Statement (.cmpImm b) := of_row (row_cmpImm b) rfl
theorem dex : Statement .dex := of_row (row_dex) rfl
theorem axs (b : Byte) : Statement (.axs b) := of_row (row_axs b) rfl
theorem cpyAbs (w : Addr) : Statement (.cpyAbs w) := of_row (row_cpyAbs w) rfl
theorem cmpAbs (w : Addr) : Statement (.cmpAbs w) := of_row (row_cmpAbs w) rfl
theorem decAbs (w : Addr) : Statement (.decAbs w) := of_row (row_decAbs w) rfl
theorem dcpAbs (w : Addr) : Statement (.dcpAbs w) := of_row (row_dcpAbs w) rfl
theorem bne (b : Byte) : Statement (.bne b) := of_row (row_bne b) rfl
theorem cmpIndY (b : Byte) : Statement (.cmpIndY b) := of_row (row_cmpIndY b) rfl
theorem jamD2 : Statement .jamD2 := of_row (row_jamD2) rfl
theorem dcpIndY (b : Byte) : Statement (.dcpIndY b) := of_row (row_dcpIndY b) rfl
theorem nopD4 (b : Byte) : Statement (.nopD4 b) := of_row (row_nopD4 b) rfl
theorem cmpZpX (b : Byte) : Statement (.cmpZpX b) := of_row (row_cmpZpX b) rfl
theorem decZpX (b : Byte) : Statement (.decZpX b) := of_row (row_decZpX b) rfl
theorem dcpZpX (b : Byte) : Statement (.dcpZpX b) := of_row (row_dcpZpX b) rfl
theorem cld : Statement .cld := of_row (row_cld) rfl
theorem cmpAbsY (w : Addr) : Statement (.cmpAbsY w) := of_row (row_cmpAbsY w) rfl
theorem nopDA : Statement .nopDA := of_row (row_nopDA) rfl
theorem dcpAbsY (w : Addr) : Statement (.dcpAbsY w) := of_row (row_dcpAbsY w) rfl
theorem nopDC (w : Addr) : Statement (.nopDC w) := of_row (row_nopDC w) rfl
theorem cmpAbsX (w : Addr) : Statement (.cmpAbsX w) := of_row (row_cmpAbsX w) rfl
theorem decAbsX (w : Addr) : Statement (.decAbsX w) := of_row (row_decAbsX w) rfl
theorem dcpAbsX (w : Addr) : Statement (.dcpAbsX w) := of_row (row_dcpAbsX w) rfl
theorem cpxImm (b : Byte) : Statement (.cpxImm b) := of_row (row_cpxImm b) rfl
theorem sbcIndX (b : Byte) : Statement (.sbcIndX b) := of_row (row_sbcIndX b) rfl
theorem nopE2 (b : Byte) : Statement (.nopE2 b) := of_row (row_nopE2 b) rfl
theorem iscIndX (b : Byte) : Statement (.iscIndX b) := of_row (row_iscIndX b) rfl
theorem cpxZp (b : Byte) : Statement (.cpxZp b) := of_row (row_cpxZp b) rfl
theorem sbcZp (b : Byte) : Statement (.sbcZp b) := of_row (row_sbcZp b) rfl
theorem incZp (b : Byte) : Statement (.incZp b) := of_row (row_incZp b) rfl
theorem iscZp (b : Byte) : Statement (.iscZp b) := of_row (row_iscZp b) rfl
theorem inx : Statement .inx := of_row (row_inx) rfl
theorem sbcImm (b : Byte) : Statement (.sbcImm b) := of_row (row_sbcImm b) rfl
theorem nop : Statement .nop := of_row (row_nop) rfl
theorem sbcEB (b : Byte) : Statement (.sbcEB b) := of_row (row_sbcEB b) rfl
theorem cpxAbs (w : Addr) : Statement (.cpxAbs w) := of_row (row_cpxAbs w) rfl
theorem sbcAbs (w : Addr) : Statement (.sbcAbs w) := of_row (row_sbcAbs w) rfl
theorem incAbs (w : Addr) : Statement (.incAbs w) := of_row (row_incAbs w) rfl
theorem iscAbs (w : Addr) : Statement (.iscAbs w) := of_row (row_iscAbs w) rfl
theorem beq (b : Byte) : Statement (.beq b) := of_row (row_beq b) rfl
theorem sbcIndY (b : Byte) : Statement (.sbcIndY b) := of_row (row_sbcIndY b) rfl
theorem jamF2 : Statement .jamF2 := of_row (row_jamF2) rfl
theorem iscIndY (b : Byte) : Statement (.iscIndY b) := of_row (row_iscIndY b) rfl
theorem nopF4 (b : Byte) : Statement (.nopF4 b) := of_row (row_nopF4 b) rfl
theorem sbcZpX (b : Byte) : Statement (.sbcZpX b) := of_row (row_sbcZpX b) rfl
theorem incZpX (b : Byte) : Statement (.incZpX b) := of_row (row_incZpX b) rfl
theorem iscZpX (b : Byte) : Statement (.iscZpX b) := of_row (row_iscZpX b) rfl
theorem sed : Statement .sed := of_row (row_sed) rfl
theorem sbcAbsY (w : Addr) : Statement (.sbcAbsY w) := of_row (row_sbcAbsY w) rfl
theorem nopFA : Statement .nopFA := of_row (row_nopFA) rfl
theorem iscAbsY (w : Addr) : Statement (.iscAbsY w) := of_row (row_iscAbsY w) rfl
theorem nopFC (w : Addr) : Statement (.nopFC w) := of_row (row_nopFC w) rfl
theorem sbcAbsX (w : Addr) : Statement (.sbcAbsX w) := of_row (row_sbcAbsX w) rfl
theorem incAbsX (w : Addr) : Statement (.incAbsX w) := of_row (row_incAbsX w) rfl
theorem iscAbsX (w : Addr) : Statement (.iscAbsX w) := of_row (row_iscAbsX w) rfl

end Sys2Proof.Laws.WellFormedRow
end

