-- ==== Sys2Proof/Laws/StepCases.lean ====
section
/-! SUPPORT. What one step of the machine can be, said once (30_encoding.md R80, 60_exceptions.md R272, R273, R284). -/

namespace Sys2Proof.Machine

open Sys2Proof

/-- `u` is `s` once the host's calls of this boundary have been made. -/
def Arrived (s u : State) : Prop :=
  (s.inputs = [] ∧ u = s) ∨ ∃ b rest, s.inputs = b :: rest ∧
    u = { s with inputs := rest, nmiPending := s.nmiPending || b.nmi, irqLine := b.irq }

theorem arrive_eq (s : State) (b : Boundary) :
    s.arrive b = { s with nmiPending := s.nmiPending || b.nmi, irqLine := b.irq } := by
  unfold State.arrive State.requestNmi State.setIrqLine
  cases b.nmi <;> simp

/-- A step is the CPU's step, a soft reset, a power-on or a snapshot load, after the host's requests; which of them is
what the boundary's call says. -/
theorem step_cases (s : State) : ∃ u, Arrived s u ∧
    (((∀ b ∈ s.inputs.head?, b.call = none) ∧ step s = u.cpuStep) ∨
      ((∃ b ∈ s.inputs.head?, b.call = some .soft) ∧ step s = .next u.softReset) ∨
      (∃ d, (∃ b ∈ s.inputs.head?, b.call = some (.powerOn d)) ∧ step s = .next (u.powerOn d)) ∨
      ∃ k, (∃ b ∈ s.inputs.head?, b.call = some (.load k)) ∧ step s = .next (u.load k)) := by
  unfold step
  cases hi : s.inputs with
  | nil => exact ⟨s, .inl ⟨hi, rfl⟩, .inl ⟨fun b hb => (nomatch hb), rfl⟩⟩
  | cons b rest =>
    refine ⟨{ s with inputs := rest, nmiPending := s.nmiPending || b.nmi, irqLine := b.irq }, .inr ⟨b, rest, hi, rfl⟩, ?_⟩
    simp only
    unfold State.boundaryStep
    rw [arrive_eq]
    cases hc : b.call with
    | none => exact .inl ⟨fun b' hb => Option.some.inj hb ▸ hc, rfl⟩
    | some c =>
      cases c with
      | soft => exact .inr (.inl ⟨⟨b, rfl, hc⟩, rfl⟩)
      | powerOn d => exact .inr (.inr (.inl ⟨d, ⟨b, rfl, hc⟩, rfl⟩))
      | load k => exact .inr (.inr (.inr ⟨k, ⟨b, rfl, hc⟩, rfl⟩))

/-- The CPU's step: nothing while halted, else a dispatch, else the instruction at PC. -/
theorem cpuStep_cases (s : State) :
    (s.halted = true ∧ s.cpuStep = .next s) ∨
    (s.halted = false ∧ ∃ k, s.cpuStep = .next (s.dispatch k)) ∨
    (s.halted = false ∧ ∃ i, s.instruction = .ok (i, []) ∧ s.cpuStep = exec i s.afterFetch) := by
  unfold State.cpuStep
  cases hh : s.halted with
  | true => exact .inl ⟨rfl, rfl⟩
  | false =>
    refine .inr ?_
    simp only [Bool.false_eq_true, if_false]
    split
    · exact .inl ⟨trivial, .nmi, rfl⟩
    · split
      · exact .inl ⟨trivial, .irq, rfl⟩
      · obtain ⟨i, hi⟩ := instruction_isOk s
        refine .inr ⟨trivial, i, hi, ?_⟩
        unfold State.runInstruction
        rw [hi]

theorem dispatch_closes (k : Interrupt) (s : State) : Closes s (s.dispatch k) := by
  have h := ((dummyRead_keeps s s.pc).trans (dummyRead_keeps _ s.pc)).trans
    (enterException_keeps _ false (k.entryI s.cfg) k.vector)
  cases k with
  | nmi => exact (h.congr (by rfl) (by rfl) (by rfl) (by rfl)).finish 7
  | irq => exact h.finish 7

/-- Whatever an instruction does, it keeps what every part of a step keeps. -/
theorem exec_keeps {i : Instr} {s t : State} (h : exec i s = .next t) : Keeps s t := by
  rcases (exec_shape h).closes with h | ⟨h, _⟩
  · exact h.toKeeps
  · exact h

theorem afterFetch_keeps (s : State) : Keeps s s.afterFetch := fetchN_keeps _ s

theorem suppressedPush_keeps (s : State) : Keeps s s.suppressedPush := (dummyRead_keeps s _).congr rfl rfl rfl rfl

theorem startFromVector_keeps (s : State) : Keeps s s.startFromVector :=
  ((Keeps.refl s).congr (t' := { s.setI true with nmiPending := false, halted := false }) rfl rfl rfl rfl).trans
    (jumpThrough_keeps _ resetVector)

theorem softReset_keeps (s : State) : Keeps s s.softReset := by
  have h0 : Keeps s { s with devices := Config.busAfterReset s.devices } := (Keeps.refl s).congr rfl rfl rfl rfl
  have h1 := (h0.trans (dummyRead_keeps _ s.pc)).trans (dummyRead_keeps _ s.pc)
  have h2 := ((h1.trans (suppressedPush_keeps _)).trans (suppressedPush_keeps _)).trans (suppressedPush_keeps _)
  exact (h2.trans (startFromVector_keeps _)).congr rfl rfl rfl rfl

/-! ## The reset sequence -/

/-- A suppressed push writes nothing and decrements S (70_reset_and_hazards.md R302). -/
theorem suppressedPush_moves (s : State) : Moves s s.suppressedPush [] (s.dummies [(.read, stackSlot s.sp)]) :=
  (dummyRead_moves s _).congr rfl rfl rfl rfl rfl

theorem suppressedPush_cpu (s : State) : s.suppressedPush.cpu = ({ s with sp := s.sp - 1 } : State).cpu :=
  cpu_withSp (dummyRead_sameButBus s (stackSlot s.sp)).cpu (s.sp - 1)

/-- Three of them. -/
theorem suppressedPush3_spec (s : State) :
    Moves s s.suppressedPush.suppressedPush.suppressedPush []
      (s.dummies [(.read, stackSlot s.sp), (.read, stackSlot (s.sp - 1)), (.read, stackSlot (s.sp - 2))]) ∧
    s.suppressedPush.suppressedPush.suppressedPush.cpu = ({ s with sp := s.sp - 3 } : State).cpu := by
  have m1 := suppressedPush_moves s
  have m2 := m1.trans (suppressedPush_moves s.suppressedPush)
  have m3 := m2.trans (suppressedPush_moves s.suppressedPush.suppressedPush)
  have e1 : s.suppressedPush.sp = s.sp - 1 := rfl
  have e2 : s.suppressedPush.suppressedPush.sp = s.sp - 2 := sub_one_twice s.sp
  rw [dummies_congr m1.cfg, dummies_congr m2.cfg, dummies_append, dummies_append, e1, e2] at m3
  refine ⟨m3, ?_⟩
  have c2 := (suppressedPush_cpu s.suppressedPush).trans (cpu_withSp (suppressedPush_cpu s) _)
  have c3 := (suppressedPush_cpu s.suppressedPush.suppressedPush).trans (cpu_withSp c2 _)
  rw [e2, sub_two_one] at c3
  exact c3

/-- The end of both resets: I set, the latches clear, PC from the reset vector (R300, R302). -/
theorem startFromVector_spec {s s0 : State} {l : List Access1} {sp : Byte} (h : Moves s s0 [] l)
    (hc : s0.cpu = ({ s with sp := sp } : State).cpu) :
    JumpedThrough s s0.startFromVector resetVector ∧
    Moves s s0.startFromVector [] (l ++ [(.read, resetVector), (.read, resetVector + 1)]) ∧
    s0.startFromVector.cpu = ({ s with
      sp := sp, pc := s0.startFromVector.pc, p := { s.p with i := true }, nmiPending := false, halted := false } :
      State).cpu := by
  obtain ⟨f1, f2, f3, f4, f5, f6, f7, f8, f9, f10, f11, f12⟩ := (cpu_eq_iff _ _).mp hc
  have m : Moves s ({ s0.setI true with nmiPending := false, halted := false } : State) [] l := h.congr rfl rfl rfl rfl rfl
  refine ⟨?_, m.trans (jumpThrough_moves _ resetVector), ?_⟩
  · exact jumpThrough_spec (u := { s0.setI true with nmiPending := false, halted := false }) resetVector m.written
      (by simp) f10 f12 (by decide) (by decide) rfl rfl
  · rw [cpu_eq_iff]
    refine ⟨f1, f2, f3, f4, rfl, ?_, rfl, f8, rfl, f10, f11, f12⟩
    show ({ s0.p with i := true } : Flags) = _
    rw [f6]

/-! ## Power-on -/

/-- RAM after power-on is the draw (20_memory.md R54). -/
theorem poweredUp_ram (s : State) (d : Draw) (c : Nat) (h : c < ramSize) : (s.poweredUp d).mem.ram c = d.ram.getD c 0 :=
  Memory.ram_withRam s.mem d.ram c h

/-- Program ROM after power-on is the cartridge's (R56). -/
theorem poweredUp_rom (s : State) (d : Draw) (k : Nat) (h : romBase ≤ k) : (s.poweredUp d).mem.read k = s.mem.read k :=
  Memory.read_withRam s.mem d.ram k h

/-- The vectors a power-on reads are the cartridge's. -/
theorem poweredUp_heldByte (s : State) (d : Draw) (a : Addr) (h : 0x8000 ≤ a.toNat) :
    (s.poweredUp d).heldByte a = s.heldByte a := by
  have h1 : ¬ a.toNat < 0x2000 := by omega
  have h2 := poweredUp_rom s d a.toNat h
  unfold State.heldByte
  simp only [h1, if_false, h2]
  rfl

theorem poweredUp_wf (s : State) (d : Draw) (h : Memory.wf s.mem = true) : Memory.wf (s.poweredUp d).mem = true :=
  Memory.withRam_wf h d.ram

/-- From the state just switched on, power-on only reads the vector and sets registers. -/
theorem powerOn_keeps (s : State) (d : Draw) : Keeps (s.poweredUp d) (s.powerOn d) :=
  (startFromVector_keeps (s.poweredUp d)).congr rfl rfl rfl rfl

theorem powerOn_legal (s : State) (d : Draw) (h : Memory.wf s.mem = true) : (s.powerOn d).Legal :=
  ⟨(powerOn_keeps s d).wf (poweredUp_wf s d h), Nat.mod_lt _ (Nat.two_pow_pos _), rfl⟩

/-- The reset sequence reads the vector last, so its byte is on the data bus. -/
theorem powerOn_latched (s : State) (d : Draw) : (s.powerOn d).latched := by
  intro e he
  cases he
  rfl

/-! ## Snapshots (60_exceptions.md R290) -/

theorem load_legal (s : State) (k : Snapshot) (h : Memory.wf s.mem = true) : (s.load k).Legal :=
  ⟨Memory.withRam_wf h k.ram, Nat.mod_lt _ (Nat.two_pow_pos _), rfl⟩

/-- The load of a save puts back everything but the record of accesses, the last cost, the IRQ level and the inputs. -/
theorem load_save {s u : State} (hs : s.Legal) (hu : u.Legal) (hc : SameConsole s u) :
    u.load s.save =
      { s with trace := u.trace, lastCost := none, irqLine := u.irqLine, inputs := u.inputs } := by
  have hm := Memory.withRam_ramBytes hs.1 hu.1 hc.2
  simp only [State.load, State.save, hm, hc.1, Nat.mod_eq_of_lt hs.2.1, hs.2.2]

/-! ## The account of the fetch -/

theorem fetchN_account (n : Nat) (s : State) :
    (State.fetchN n s).cycles = s.cycles ∧ (State.fetchN n s).dmaWritten = s.dmaWritten := by
  induction n generalizing s with
  | zero => exact ⟨rfl, rfl⟩
  | succ n ih => exact ih s.fetch8

end Sys2Proof.Machine
end

