-- ==== Sys2Proof/Laws/Record.lean ====
section
/-! SUPPORT. The record of accesses and the last cost decide nothing: a step from two states that differ in those alone
ends alike, in states that differ in those alone (10_state.md R35, 20_memory.md R55, 60_exceptions.md R290). -/

namespace Sys2Proof.Machine

open Sys2Proof

/-- `t` is `s` but for the record of accesses and the last cost. -/
def SameButRecord (s t : State) : Prop := ∃ tr lc, t = { s with trace := tr, lastCost := lc }

/-- An operation that keeps two states the same but for the record. -/
def BlindToRecord (f : State → State) : Prop := ∀ s t, SameButRecord s t → SameButRecord (f s) (f t)

/-! ## The operations -/

theorem setPc_blind (w : Addr) : BlindToRecord (fun s => { s with pc := w }) := by
  rintro _ _ ⟨tr, lc, rfl⟩; exact ⟨_, _, rfl⟩

theorem busRead_blind (a : Addr) : BlindToRecord (fun s => s.busRead a) := by
  rintro _ _ ⟨tr, lc, rfl⟩; exact ⟨_, _, rfl⟩

theorem busWrite_blind (a : Addr) (v : Byte) : BlindToRecord (fun s => s.busWrite a v) := by
  rintro _ _ ⟨tr, lc, rfl⟩; exact ⟨_, _, rfl⟩

theorem dummyRead_blind (a : Addr) : BlindToRecord (fun s => s.dummyRead a) := by
  rintro s _ ⟨tr, lc, rfl⟩
  show SameButRecord (if s.cfg.dummyAccesses then _ else _) (if s.cfg.dummyAccesses then _ else _)
  cases s.cfg.dummyAccesses <;> exact ⟨_, _, rfl⟩

theorem dummyWrite_blind (a : Addr) (v : Byte) : BlindToRecord (fun s => s.dummyWrite a v) := by
  rintro s _ ⟨tr, lc, rfl⟩
  show SameButRecord (if s.cfg.dummyAccesses then _ else _) (if s.cfg.dummyAccesses then _ else _)
  cases s.cfg.dummyAccesses <;> exact ⟨_, _, rfl⟩

theorem finish_blind (cost : Nat) : BlindToRecord (fun s => s.finish cost) := by
  rintro _ _ ⟨tr, lc, rfl⟩; exact ⟨_, _, rfl⟩

theorem push_blind (v : Byte) : BlindToRecord (fun s => s.push v) := by
  rintro _ _ ⟨tr, lc, rfl⟩; exact ⟨_, _, rfl⟩

theorem pull_blind : BlindToRecord State.pull := by
  rintro _ _ ⟨tr, lc, rfl⟩; exact ⟨_, _, rfl⟩

theorem pulled_blind {s t : State} (h : SameButRecord s t) : t.pulled = s.pulled := by obtain ⟨_, _, rfl⟩ := h; rfl

theorem pushPc_blind : BlindToRecord State.pushPc := by
  rintro _ _ ⟨tr, lc, rfl⟩; exact ⟨_, _, rfl⟩

theorem jumpThrough_blind (vec : Addr) : BlindToRecord (fun s => s.jumpThrough vec) := by
  rintro _ _ ⟨tr, lc, rfl⟩; exact ⟨_, _, rfl⟩

theorem enterException_blind (brk i : Bool) (vec : Addr) : BlindToRecord (fun s => s.enterException brk i vec) := by
  rintro _ _ ⟨tr, lc, rfl⟩; exact ⟨_, _, rfl⟩

theorem returnFromException_blind : BlindToRecord State.returnFromException := by
  intro s t h
  have h1 := pull_blind _ _ h
  have h2 := pull_blind _ _ h1
  obtain ⟨tr, lc, h3⟩ := pull_blind _ _ h2
  unfold State.returnFromException
  rw [pulled_blind h, pulled_blind h1, pulled_blind h2]
  exact ⟨tr, lc, congrArg (fun u : State =>
    { u with p := unpackP s.pulled, pc := word s.pull.pull.pulled s.pull.pulled }) h3⟩

theorem fetch8_blind : BlindToRecord State.fetch8 := by
  rintro _ _ ⟨tr, lc, rfl⟩; exact ⟨_, _, rfl⟩

theorem fetchN_blind (n : Nat) : BlindToRecord (State.fetchN n) := by
  induction n with
  | zero => exact fun _ _ h => h
  | succ n ih => exact fun _ _ h => ih _ _ (fetch8_blind _ _ h)

theorem fetchedBytes_blind (n : Nat) {s t : State} (h : SameButRecord s t) :
    State.fetchedBytes n t = State.fetchedBytes n s := by
  induction n generalizing s t with
  | zero => rfl
  | succ n ih =>
    simp only [State.fetchedBytes]
    rw [ih (fetch8_blind _ _ h)]
    obtain ⟨_, _, rfl⟩ := h
    rfl

/-! ## The shapes of an instruction -/

theorem locate_blind (cls : Access) (m : Mode) {s t : State} (h : SameButRecord s t) :
    SameButRecord (locate cls m s).st (locate cls m t).st ∧ (locate cls m t).opd = (locate cls m s).opd := by
  have indexed (base : Addr) (i : Byte) {s t : State} (h : SameButRecord s t) :
      SameButRecord (locateIndexed cls base i s).st (locateIndexed cls base i t).st ∧
        (locateIndexed cls base i t).opd = (locateIndexed cls base i s).opd := by
    unfold locateIndexed
    refine ⟨?_, rfl⟩
    simp only
    split
    · exact h
    · exact dummyRead_blind _ _ _ h
  have h' := h
  obtain ⟨tr, lc, rfl⟩ := h
  cases m with
  | acc => exact ⟨dummyRead_blind _ _ _ h', rfl⟩
  | imm b => exact ⟨h', rfl⟩
  | zp b => exact ⟨h', rfl⟩
  | zpX b => exact ⟨dummyRead_blind _ _ _ h', rfl⟩
  | zpY b => exact ⟨dummyRead_blind _ _ _ h', rfl⟩
  | abs w => exact ⟨h', rfl⟩
  | absX w => exact indexed w s.x h'
  | absY w => exact indexed w s.y h'
  | indX b =>
    have h1 := dummyRead_blind (zext16 b) _ _ h'
    refine ⟨busRead_blind _ _ _ (busRead_blind _ _ _ h1), ?_⟩
    obtain ⟨_, _, h2⟩ := h1
    simp only [locate] at h2 ⊢
    rw [h2]
    rfl
  | indY b => exact indexed _ s.y (busRead_blind _ _ _ (busRead_blind _ _ _ h'))

theorem loaded_blind (o : Operand) {s t : State} (h : SameButRecord s t) :
    SameButRecord (o.loaded s) (o.loaded t) ∧ o.value t = o.value s := by
  have h' := h
  obtain ⟨tr, lc, rfl⟩ := h
  cases o with
  | acc => exact ⟨h', rfl⟩
  | imm v => exact ⟨h', rfl⟩
  | mem ea c => exact ⟨busRead_blind _ _ _ h', rfl⟩

theorem store_blind (o : Operand) (v : Byte) : BlindToRecord (o.store v) := by
  intro s t h
  cases o with
  | acc => obtain ⟨tr, lc, rfl⟩ := h; exact ⟨_, _, rfl⟩
  | imm v => exact h
  | mem ea c => exact busWrite_blind ea v _ _ h

theorem writeBack_blind (o : Operand) (v : Byte) : BlindToRecord (o.writeBack v) := by
  intro s t h
  cases o with
  | acc => exact h
  | imm v => exact h
  | mem ea c => exact dummyWrite_blind ea v _ _ h

theorem readOp_blind {m : Mode} {cost : Nat} {f : State → Byte → State} (hf : ∀ v, BlindToRecord (fun s => f s v))
    {s t : State} (h : SameButRecord s t) : SameButRecord (readOp m cost f s) (readOp m cost f t) := by
  obtain ⟨h1, h2⟩ := locate_blind .read m h
  obtain ⟨h3, h4⟩ := loaded_blind (locate .read m s).opd h1
  unfold readOp
  simp only [h2]
  rw [h4]
  exact finish_blind _ _ _ (hf _ _ _ h3)

theorem writeOp_blind {m : Mode} {cost : Nat} {v : Byte} {s t : State} (h : SameButRecord s t) :
    SameButRecord (writeOp m cost v s) (writeOp m cost v t) := by
  obtain ⟨h1, h2⟩ := locate_blind .write m h
  unfold writeOp
  simp only [h2]
  exact finish_blind _ _ _ (store_blind _ _ _ _ h1)

theorem rmwOp_blind {m : Mode} {cost : Nat} {new : Byte → Byte} {g : State → Byte → Byte → State}
    (hg : ∀ v r, BlindToRecord (fun s => g s v r)) {s t : State} (h : SameButRecord s t) :
    SameButRecord (rmwOp m cost new g s) (rmwOp m cost new g t) := by
  obtain ⟨h1, h2⟩ := locate_blind .rmw m h
  obtain ⟨h3, h4⟩ := loaded_blind (locate .rmw m s).opd h1
  unfold rmwOp
  simp only [h2]
  rw [h4]
  exact finish_blind _ _ _ (hg _ _ _ _ (store_blind _ _ _ _ (writeBack_blind _ _ _ _ h3)))

theorem impliedOp_blind {cost : Nat} {f : State → State} (hf : BlindToRecord f) {s t : State}
    (h : SameButRecord s t) : SameButRecord (impliedOp cost f s) (impliedOp cost f t) := by
  have h1 := dummyRead_blind s.pc _ _ h
  obtain ⟨tr, lc, rfl⟩ := h
  exact finish_blind _ _ _ (hf _ _ h1)

theorem branchOp_blind {cond : Bool} {off : Byte} {s t : State} (h : SameButRecord s t) :
    SameButRecord (branchOp cond off s) (branchOp cond off t) := by
  have h1 := dummyRead_blind s.pc _ _ h
  have h2 := dummyRead_blind (inPageOf s.pc (s.pc + sext16 off)) _ _ h1
  have h0 := finish_blind 2 _ _ h
  obtain ⟨tr, lc, rfl⟩ := h
  cases cond with
  | false => exact h0
  | true =>
    by_cases hp : pageCross s.pc (s.pc + sext16 off) = true
    · have e (u : State) (hu : u.pc = s.pc) : branchOp true off u =
          ({ (u.dummyRead s.pc).dummyRead (inPageOf s.pc (s.pc + sext16 off)) with pc := s.pc + sext16 off } :
            State).finish 4 := by
        rw [← hu] at hp ⊢; exact if_pos hp
      rw [e s rfl, e { s with trace := tr, lastCost := lc } rfl]
      exact finish_blind 4 _ _ (setPc_blind (s.pc + sext16 off) _ _ h2)
    · have e (u : State) (hu : u.pc = s.pc) : branchOp true off u =
          ({ u.dummyRead s.pc with pc := s.pc + sext16 off } : State).finish 3 := by
        rw [← hu] at hp ⊢; exact if_neg hp
      rw [e s rfl, e { s with trace := tr, lastCost := lc } rfl]
      exact finish_blind 3 _ _ (setPc_blind (s.pc + sext16 off) _ _ h1)

theorem pushOp_blind {cost : Nat} {v : Byte} {s t : State} (h : SameButRecord s t) :
    SameButRecord (pushOp cost v s) (pushOp cost v t) := by
  have h1 := push_blind v _ _ (dummyRead_blind s.pc _ _ h)
  obtain ⟨tr, lc, rfl⟩ := h
  exact finish_blind _ _ _ h1

theorem beforePull_blind : BlindToRecord State.beforePull := by
  intro s t h
  have h1 := dummyRead_blind (stackSlot s.sp) _ _ (dummyRead_blind s.pc _ _ h)
  obtain ⟨tr, lc, rfl⟩ := h
  exact h1

theorem beforeReturn_blind : BlindToRecord State.beforeReturn := by
  intro s t h
  have h1 := dummyRead_blind (stackSlot s.sp) _ _ (dummyRead_blind s.pc _ _ h)
  obtain ⟨tr, lc, rfl⟩ := h
  exact h1

theorem pushLink_blind : BlindToRecord State.pushLink := by
  intro s t h
  have h1 := pushPc_blind _ _ (dummyRead_blind (stackSlot s.sp) _ _ h)
  obtain ⟨tr, lc, rfl⟩ := h
  exact h1

theorem skipPadding_blind : BlindToRecord State.skipPadding := by
  intro s t h
  have h1 := setPc_blind (s.pc + 1) _ _ (dummyRead_blind s.pc _ _ h)
  obtain ⟨tr, lc, rfl⟩ := h
  exact h1

theorem returnToLink_blind : BlindToRecord State.returnToLink := by
  intro s t h
  have h1 := dummyRead_blind s.pulledLink _ _ (pull_blind _ _ (pull_blind _ _ h))
  obtain ⟨tr, lc, rfl⟩ := h
  exact setPc_blind (s.pulledLink + 1) _ _ h1

theorem pla_blind : BlindToRecord (fun s =>
    ({ s.beforePull.pull with a := s.beforePull.pulled } : State).setNZ s.beforePull.pulled) := by
  intro s t h
  obtain ⟨_, _, e⟩ := beforePull_blind _ _ h
  simp only [e]
  exact ⟨_, _, rfl⟩

theorem plp_blind : BlindToRecord (fun s => { s.beforePull.pull with p := unpackP s.beforePull.pulled }) := by
  intro s t h
  obtain ⟨_, _, e⟩ := beforePull_blind _ _ h
  simp only [e]
  exact ⟨_, _, rfl⟩

theorem jsr_blind (w : Addr) : BlindToRecord (fun s =>
    { s.pushLink.fetch8 with pc := word s.pushLink.fetched (loByte w) }) := by
  intro s t h
  obtain ⟨_, _, e⟩ := pushLink_blind _ _ h
  simp only [e]
  exact ⟨_, _, rfl⟩

/-! ## Every instruction and every step -/

/-- Two outcomes that agree but for the record. -/
inductive SameOutcome : Result → Result → Prop
  | next {s t : State} (h : SameButRecord s t) : SameOutcome (.next s) (.next t)
  | fault (f : Fault) : SameOutcome (.fault f) (.fault f)
  | refused (r : Refusal) : SameOutcome (.refused r) (.refused r)

theorem unofficial_blind {op : Byte} {cost : Nat} {f f' : State → State} {s t : State} (h : SameButRecord s t)
    (hf : SameButRecord (f s) (f' t)) : SameOutcome (unofficial op cost f s) (unofficial op cost f' t) := by
  have h0 := finish_blind cost _ _ h
  obtain ⟨tr, lc, rfl⟩ := h
  unfold unofficial
  simp only
  cases s.cfg.policy with
  | refuse => exact .refused _
  | nop => exact .next h0
  | semantic => exact .next hf

theorem unstable_blind {op : Byte} {cost : Nat} {s t : State} (h : SameButRecord s t) :
    SameOutcome (unstable op cost s) (unstable op cost t) := by
  have h0 := finish_blind cost _ _ h
  obtain ⟨tr, lc, rfl⟩ := h
  unfold unstable
  simp only
  cases s.cfg.policy with
  | refuse => exact .refused _
  | nop => exact .next h0
  | semantic => exact .refused _

theorem jam_blind {op : Byte} {s t : State} (h : SameButRecord s t) : SameOutcome (jam op s) (jam op t) := by
  obtain ⟨a, b, h1⟩ := dummyRead_blind s.pc _ _ h
  obtain ⟨tr, lc, rfl⟩ := h
  unfold jam
  simp only at h1 ⊢
  cases s.cfg.policy with
  | refuse => exact .refused _
  | nop => exact .refused _
  | semantic => exact .next ⟨a, none, congrArg (fun u : State => { u with halted := true, lastCost := none }) h1⟩

theorem exec_blind (i : Instr) {s t : State} (h : SameButRecord s t) : SameOutcome (exec i s) (exec i t) := by
  have regs {f : State → State} (hf : ∀ s tr lc, f { s with trace := tr, lastCost := lc } =
      { f s with trace := (f { s with trace := tr, lastCost := lc }).trace
                 lastCost := (f { s with trace := tr, lastCost := lc }).lastCost }) : BlindToRecord f := by
    rintro s _ ⟨tr, lc, rfl⟩
    exact ⟨_, _, hf s tr lc⟩
  have h' := h
  obtain ⟨tr, lc, rfl⟩ := h
  cases i with
  | brk => exact .next (finish_blind 7 _ _ (enterException_blind true true irqVector _ _ (skipPadding_blind _ _ h')))
  | oraIndX b => exact .next (readOp_blind (fun _ => regs fun _ _ _ => rfl) h')
  | jam02 => exact jam_blind h'
  | sloIndX b => exact unofficial_blind h' (rmwOp_blind (fun _ _ => regs fun _ _ _ => rfl) h')
  | nop04 b => exact unofficial_blind h' (readOp_blind (fun _ => regs fun _ _ _ => rfl) h')
  | oraZp b => exact .next (readOp_blind (fun _ => regs fun _ _ _ => rfl) h')
  | aslZp b => exact .next (rmwOp_blind (fun _ _ => regs fun _ _ _ => rfl) h')
  | sloZp b => exact unofficial_blind h' (rmwOp_blind (fun _ _ => regs fun _ _ _ => rfl) h')
  | php => exact .next (pushOp_blind h')
  | oraImm b => exact .next (readOp_blind (fun _ => regs fun _ _ _ => rfl) h')
  | aslAcc => exact .next (rmwOp_blind (fun _ _ => regs fun _ _ _ => rfl) h')
  | anc0B b => exact unofficial_blind h' (readOp_blind (fun _ => regs fun _ _ _ => rfl) h')
  | nop0C w => exact unofficial_blind h' (readOp_blind (fun _ => regs fun _ _ _ => rfl) h')
  | oraAbs w => exact .next (readOp_blind (fun _ => regs fun _ _ _ => rfl) h')
  | aslAbs w => exact .next (rmwOp_blind (fun _ _ => regs fun _ _ _ => rfl) h')
  | sloAbs w => exact unofficial_blind h' (rmwOp_blind (fun _ _ => regs fun _ _ _ => rfl) h')
  | bpl b => exact .next (branchOp_blind h')
  | oraIndY b => exact .next (readOp_blind (fun _ => regs fun _ _ _ => rfl) h')
  | jam12 => exact jam_blind h'
  | sloIndY b => exact unofficial_blind h' (rmwOp_blind (fun _ _ => regs fun _ _ _ => rfl) h')
  | nop14 b => exact unofficial_blind h' (readOp_blind (fun _ => regs fun _ _ _ => rfl) h')
  | oraZpX b => exact .next (readOp_blind (fun _ => regs fun _ _ _ => rfl) h')
  | aslZpX b => exact .next (rmwOp_blind (fun _ _ => regs fun _ _ _ => rfl) h')
  | sloZpX b => exact unofficial_blind h' (rmwOp_blind (fun _ _ => regs fun _ _ _ => rfl) h')
  | clc => exact .next (impliedOp_blind (regs fun _ _ _ => rfl) h')
  | oraAbsY w => exact .next (readOp_blind (fun _ => regs fun _ _ _ => rfl) h')
  | nop1A => exact unofficial_blind h' (impliedOp_blind (regs fun _ _ _ => rfl) h')
  | sloAbsY w => exact unofficial_blind h' (rmwOp_blind (fun _ _ => regs fun _ _ _ => rfl) h')
  | nop1C w => exact unofficial_blind h' (readOp_blind (fun _ => regs fun _ _ _ => rfl) h')
  | oraAbsX w => exact .next (readOp_blind (fun _ => regs fun _ _ _ => rfl) h')
  | aslAbsX w => exact .next (rmwOp_blind (fun _ _ => regs fun _ _ _ => rfl) h')
  | sloAbsX w => exact unofficial_blind h' (rmwOp_blind (fun _ _ => regs fun _ _ _ => rfl) h')
  | jsr w => exact .next (finish_blind 6 _ _ (jsr_blind w _ _ h'))
  | andIndX b => exact .next (readOp_blind (fun _ => regs fun _ _ _ => rfl) h')
  | jam22 => exact jam_blind h'
  | rlaIndX b => exact unofficial_blind h' (rmwOp_blind (fun _ _ => regs fun _ _ _ => rfl) h')
  | bitZp b => exact .next (readOp_blind (fun _ => regs fun _ _ _ => rfl) h')
  | andZp b => exact .next (readOp_blind (fun _ => regs fun _ _ _ => rfl) h')
  | rolZp b => exact .next (rmwOp_blind (fun _ _ => regs fun _ _ _ => rfl) h')
  | rlaZp b => exact unofficial_blind h' (rmwOp_blind (fun _ _ => regs fun _ _ _ => rfl) h')
  | plp => exact .next (finish_blind 4 _ _ (plp_blind _ _ h'))
  | andImm b => exact .next (readOp_blind (fun _ => regs fun _ _ _ => rfl) h')
  | rolAcc => exact .next (rmwOp_blind (fun _ _ => regs fun _ _ _ => rfl) h')
  | anc2B b => exact unofficial_blind h' (readOp_blind (fun _ => regs fun _ _ _ => rfl) h')
  | bitAbs w => exact .next (readOp_blind (fun _ => regs fun _ _ _ => rfl) h')
  | andAbs w => exact .next (readOp_blind (fun _ => regs fun _ _ _ => rfl) h')
  | rolAbs w => exact .next (rmwOp_blind (fun _ _ => regs fun _ _ _ => rfl) h')
  | rlaAbs w => exact unofficial_blind h' (rmwOp_blind (fun _ _ => regs fun _ _ _ => rfl) h')
  | bmi b => exact .next (branchOp_blind h')
  | andIndY b => exact .next (readOp_blind (fun _ => regs fun _ _ _ => rfl) h')
  | jam32 => exact jam_blind h'
  | rlaIndY b => exact unofficial_blind h' (rmwOp_blind (fun _ _ => regs fun _ _ _ => rfl) h')
  | nop34 b => exact unofficial_blind h' (readOp_blind (fun _ => regs fun _ _ _ => rfl) h')
  | andZpX b => exact .next (readOp_blind (fun _ => regs fun _ _ _ => rfl) h')
  | rolZpX b => exact .next (rmwOp_blind (fun _ _ => regs fun _ _ _ => rfl) h')
  | rlaZpX b => exact unofficial_blind h' (rmwOp_blind (fun _ _ => regs fun _ _ _ => rfl) h')
  | sec => exact .next (impliedOp_blind (regs fun _ _ _ => rfl) h')
  | andAbsY w => exact .next (readOp_blind (fun _ => regs fun _ _ _ => rfl) h')
  | nop3A => exact unofficial_blind h' (impliedOp_blind (regs fun _ _ _ => rfl) h')
  | rlaAbsY w => exact unofficial_blind h' (rmwOp_blind (fun _ _ => regs fun _ _ _ => rfl) h')
  | nop3C w => exact unofficial_blind h' (readOp_blind (fun _ => regs fun _ _ _ => rfl) h')
  | andAbsX w => exact .next (readOp_blind (fun _ => regs fun _ _ _ => rfl) h')
  | rolAbsX w => exact .next (rmwOp_blind (fun _ _ => regs fun _ _ _ => rfl) h')
  | rlaAbsX w => exact unofficial_blind h' (rmwOp_blind (fun _ _ => regs fun _ _ _ => rfl) h')
  | rti => exact .next (finish_blind 6 _ _ (returnFromException_blind _ _ (beforeReturn_blind _ _ h')))
  | eorIndX b => exact .next (readOp_blind (fun _ => regs fun _ _ _ => rfl) h')
  | jam42 => exact jam_blind h'
  | sreIndX b => exact unofficial_blind h' (rmwOp_blind (fun _ _ => regs fun _ _ _ => rfl) h')
  | nop44 b => exact unofficial_blind h' (readOp_blind (fun _ => regs fun _ _ _ => rfl) h')
  | eorZp b => exact .next (readOp_blind (fun _ => regs fun _ _ _ => rfl) h')
  | lsrZp b => exact .next (rmwOp_blind (fun _ _ => regs fun _ _ _ => rfl) h')
  | sreZp b => exact unofficial_blind h' (rmwOp_blind (fun _ _ => regs fun _ _ _ => rfl) h')
  | pha => exact .next (pushOp_blind h')
  | eorImm b => exact .next (readOp_blind (fun _ => regs fun _ _ _ => rfl) h')
  | lsrAcc => exact .next (rmwOp_blind (fun _ _ => regs fun _ _ _ => rfl) h')
  | alr b => exact unofficial_blind h' (readOp_blind (fun _ => regs fun _ _ _ => rfl) h')
  | jmpAbs w => exact .next ⟨_, _, rfl⟩
  | eorAbs w => exact .next (readOp_blind (fun _ => regs fun _ _ _ => rfl) h')
  | lsrAbs w => exact .next (rmwOp_blind (fun _ _ => regs fun _ _ _ => rfl) h')
  | sreAbs w => exact unofficial_blind h' (rmwOp_blind (fun _ _ => regs fun _ _ _ => rfl) h')
  | bvc b => exact .next (branchOp_blind h')
  | eorIndY b => exact .next (readOp_blind (fun _ => regs fun _ _ _ => rfl) h')
  | jam52 => exact jam_blind h'
  | sreIndY b => exact unofficial_blind h' (rmwOp_blind (fun _ _ => regs fun _ _ _ => rfl) h')
  | nop54 b => exact unofficial_blind h' (readOp_blind (fun _ => regs fun _ _ _ => rfl) h')
  | eorZpX b => exact .next (readOp_blind (fun _ => regs fun _ _ _ => rfl) h')
  | lsrZpX b => exact .next (rmwOp_blind (fun _ _ => regs fun _ _ _ => rfl) h')
  | sreZpX b => exact unofficial_blind h' (rmwOp_blind (fun _ _ => regs fun _ _ _ => rfl) h')
  | cli => exact .next (impliedOp_blind (regs fun _ _ _ => rfl) h')
  | eorAbsY w => exact .next (readOp_blind (fun _ => regs fun _ _ _ => rfl) h')
  | nop5A => exact unofficial_blind h' (impliedOp_blind (regs fun _ _ _ => rfl) h')
  | sreAbsY w => exact unofficial_blind h' (rmwOp_blind (fun _ _ => regs fun _ _ _ => rfl) h')
  | nop5C w => exact unofficial_blind h' (readOp_blind (fun _ => regs fun _ _ _ => rfl) h')
  | eorAbsX w => exact .next (readOp_blind (fun _ => regs fun _ _ _ => rfl) h')
  | lsrAbsX w => exact .next (rmwOp_blind (fun _ _ => regs fun _ _ _ => rfl) h')
  | sreAbsX w => exact unofficial_blind h' (rmwOp_blind (fun _ _ => regs fun _ _ _ => rfl) h')
  | rts => exact .next (finish_blind 6 _ _ (returnToLink_blind _ _ (beforeReturn_blind _ _ h')))
  | adcIndX b => exact .next (readOp_blind (fun _ => regs fun _ _ _ => rfl) h')
  | jam62 => exact jam_blind h'
  | rraIndX b => exact unofficial_blind h' (rmwOp_blind (fun _ _ => regs fun _ _ _ => rfl) h')
  | nop64 b => exact unofficial_blind h' (readOp_blind (fun _ => regs fun _ _ _ => rfl) h')
  | adcZp b => exact .next (readOp_blind (fun _ => regs fun _ _ _ => rfl) h')
  | rorZp b => exact .next (rmwOp_blind (fun _ _ => regs fun _ _ _ => rfl) h')
  | rraZp b => exact unofficial_blind h' (rmwOp_blind (fun _ _ => regs fun _ _ _ => rfl) h')
  | pla => exact .next (finish_blind 4 _ _ (pla_blind _ _ h'))
  | adcImm b => exact .next (readOp_blind (fun _ => regs fun _ _ _ => rfl) h')
  | rorAcc => exact .next (rmwOp_blind (fun _ _ => regs fun _ _ _ => rfl) h')
  | arr b => exact unofficial_blind h' (readOp_blind (fun _ => regs fun _ _ _ => rfl) h')
  | jmpInd w => exact .next ⟨_, _, rfl⟩
  | adcAbs w => exact .next (readOp_blind (fun _ => regs fun _ _ _ => rfl) h')
  | rorAbs w => exact .next (rmwOp_blind (fun _ _ => regs fun _ _ _ => rfl) h')
  | rraAbs w => exact unofficial_blind h' (rmwOp_blind (fun _ _ => regs fun _ _ _ => rfl) h')
  | bvs b => exact .next (branchOp_blind h')
  | adcIndY b => exact .next (readOp_blind (fun _ => regs fun _ _ _ => rfl) h')
  | jam72 => exact jam_blind h'
  | rraIndY b => exact unofficial_blind h' (rmwOp_blind (fun _ _ => regs fun _ _ _ => rfl) h')
  | nop74 b => exact unofficial_blind h' (readOp_blind (fun _ => regs fun _ _ _ => rfl) h')
  | adcZpX b => exact .next (readOp_blind (fun _ => regs fun _ _ _ => rfl) h')
  | rorZpX b => exact .next (rmwOp_blind (fun _ _ => regs fun _ _ _ => rfl) h')
  | rraZpX b => exact unofficial_blind h' (rmwOp_blind (fun _ _ => regs fun _ _ _ => rfl) h')
  | sei => exact .next (impliedOp_blind (regs fun _ _ _ => rfl) h')
  | adcAbsY w => exact .next (readOp_blind (fun _ => regs fun _ _ _ => rfl) h')
  | nop7A => exact unofficial_blind h' (impliedOp_blind (regs fun _ _ _ => rfl) h')
  | rraAbsY w => exact unofficial_blind h' (rmwOp_blind (fun _ _ => regs fun _ _ _ => rfl) h')
  | nop7C w => exact unofficial_blind h' (readOp_blind (fun _ => regs fun _ _ _ => rfl) h')
  | adcAbsX w => exact .next (readOp_blind (fun _ => regs fun _ _ _ => rfl) h')
  | rorAbsX w => exact .next (rmwOp_blind (fun _ _ => regs fun _ _ _ => rfl) h')
  | rraAbsX w => exact unofficial_blind h' (rmwOp_blind (fun _ _ => regs fun _ _ _ => rfl) h')
  | nop80 b => exact unofficial_blind h' (readOp_blind (fun _ => regs fun _ _ _ => rfl) h')
  | staIndX b => exact .next (writeOp_blind h')
  | nop82 b => exact unofficial_blind h' (readOp_blind (fun _ => regs fun _ _ _ => rfl) h')
  | saxIndX b => exact unofficial_blind h' (writeOp_blind h')
  | styZp b => exact .next (writeOp_blind h')
  | staZp b => exact .next (writeOp_blind h')
  | stxZp b => exact .next (writeOp_blind h')
  | saxZp b => exact unofficial_blind h' (writeOp_blind h')
  | dey => exact .next (impliedOp_blind (regs fun _ _ _ => rfl) h')
  | nop89 b => exact unofficial_blind h' (readOp_blind (fun _ => regs fun _ _ _ => rfl) h')
  | txa => exact .next (impliedOp_blind (regs fun _ _ _ => rfl) h')
  | ane b => exact unstable_blind h'
  | styAbs w => exact .next (writeOp_blind h')
  | staAbs w => exact .next (writeOp_blind h')
  | stxAbs w => exact .next (writeOp_blind h')
  | saxAbs w => exact unofficial_blind h' (writeOp_blind h')
  | bcc b => exact .next (branchOp_blind h')
  | staIndY b => exact .next (writeOp_blind h')
  | jam92 => exact jam_blind h'
  | shaIndY b => exact unstable_blind h'
  | styZpX b => exact .next (writeOp_blind h')
  | staZpX b => exact .next (writeOp_blind h')
  | stxZpY b => exact .next (writeOp_blind h')
  | saxZpY b => exact unofficial_blind h' (writeOp_blind h')
  | tya => exact .next (impliedOp_blind (regs fun _ _ _ => rfl) h')
  | staAbsY w => exact .next (writeOp_blind h')
  | txs => exact .next (impliedOp_blind (regs fun _ _ _ => rfl) h')
  | tas w => exact unstable_blind h'
  | shy w => exact unstable_blind h'
  | staAbsX w => exact .next (writeOp_blind h')
  | shx w => exact unstable_blind h'
  | shaAbsY w => exact unstable_blind h'
  | ldyImm b => exact .next (readOp_blind (fun _ => regs fun _ _ _ => rfl) h')
  | ldaIndX b => exact .next (readOp_blind (fun _ => regs fun _ _ _ => rfl) h')
  | ldxImm b => exact .next (readOp_blind (fun _ => regs fun _ _ _ => rfl) h')
  | laxIndX b => exact unofficial_blind h' (readOp_blind (fun _ => regs fun _ _ _ => rfl) h')
  | ldyZp b => exact .next (readOp_blind (fun _ => regs fun _ _ _ => rfl) h')
  | ldaZp b => exact .next (readOp_blind (fun _ => regs fun _ _ _ => rfl) h')
  | ldxZp b => exact .next (readOp_blind (fun _ => regs fun _ _ _ => rfl) h')
  | laxZp b => exact unofficial_blind h' (readOp_blind (fun _ => regs fun _ _ _ => rfl) h')
  | tay => exact .next (impliedOp_blind (regs fun _ _ _ => rfl) h')
  | ldaImm b => exact .next (readOp_blind (fun _ => regs fun _ _ _ => rfl) h')
  | tax => exact .next (impliedOp_blind (regs fun _ _ _ => rfl) h')
  | lxa b => exact unstable_blind h'
  | ldyAbs w => exact .next (readOp_blind (fun _ => regs fun _ _ _ => rfl) h')
  | ldaAbs w => exact .next (readOp_blind (fun _ => regs fun _ _ _ => rfl) h')
  | ldxAbs w => exact .next (readOp_blind (fun _ => regs fun _ _ _ => rfl) h')
  | laxAbs w => exact unofficial_blind h' (readOp_blind (fun _ => regs fun _ _ _ => rfl) h')
  | bcs b => exact .next (branchOp_blind h')
  | ldaIndY b => exact .next (readOp_blind (fun _ => regs fun _ _ _ => rfl) h')
  | jamB2 => exact jam_blind h'
  | laxIndY b => exact unofficial_blind h' (readOp_blind (fun _ => regs fun _ _ _ => rfl) h')
  | ldyZpX b => exact .next (readOp_blind (fun _ => regs fun _ _ _ => rfl) h')
  | ldaZpX b => exact .next (readOp_blind (fun _ => regs fun _ _ _ => rfl) h')
  | ldxZpY b => exact .next (readOp_blind (fun _ => regs fun _ _ _ => rfl) h')
  | laxZpY b => exact unofficial_blind h' (readOp_blind (fun _ => regs fun _ _ _ => rfl) h')
  | clv => exact .next (impliedOp_blind (regs fun _ _ _ => rfl) h')
  | ldaAbsY w => exact .next (readOp_blind (fun _ => regs fun _ _ _ => rfl) h')
  | tsx => exact .next (impliedOp_blind (regs fun _ _ _ => rfl) h')
  | las w => exact unofficial_blind h' (readOp_blind (fun _ => regs fun _ _ _ => rfl) h')
  | ldyAbsX w => exact .next (readOp_blind (fun _ => regs fun _ _ _ => rfl) h')
  | ldaAbsX w => exact .next (readOp_blind (fun _ => regs fun _ _ _ => rfl) h')
  | ldxAbsY w => exact .next (readOp_blind (fun _ => regs fun _ _ _ => rfl) h')
  | laxAbsY w => exact unofficial_blind h' (readOp_blind (fun _ => regs fun _ _ _ => rfl) h')
  | cpyImm b => exact .next (readOp_blind (fun _ => regs fun _ _ _ => rfl) h')
  | cmpIndX b => exact .next (readOp_blind (fun _ => regs fun _ _ _ => rfl) h')
  | nopC2 b => exact unofficial_blind h' (readOp_blind (fun _ => regs fun _ _ _ => rfl) h')
  | dcpIndX b => exact unofficial_blind h' (rmwOp_blind (fun _ _ => regs fun _ _ _ => rfl) h')
  | cpyZp b => exact .next (readOp_blind (fun _ => regs fun _ _ _ => rfl) h')
  | cmpZp b => exact .next (readOp_blind (fun _ => regs fun _ _ _ => rfl) h')
  | decZp b => exact .next (rmwOp_blind (fun _ _ => regs fun _ _ _ => rfl) h')
  | dcpZp b => exact unofficial_blind h' (rmwOp_blind (fun _ _ => regs fun _ _ _ => rfl) h')
  | iny => exact .next (impliedOp_blind (regs fun _ _ _ => rfl) h')
  | cmpImm b => exact .next (readOp_blind (fun _ => regs fun _ _ _ => rfl) h')
  | dex => exact .next (impliedOp_blind (regs fun _ _ _ => rfl) h')
  | axs b => exact unofficial_blind h' (readOp_blind (fun _ => regs fun _ _ _ => rfl) h')
  | cpyAbs w => exact .next (readOp_blind (fun _ => regs fun _ _ _ => rfl) h')
  | cmpAbs w => exact .next (readOp_blind (fun _ => regs fun _ _ _ => rfl) h')
  | decAbs w => exact .next (rmwOp_blind (fun _ _ => regs fun _ _ _ => rfl) h')
  | dcpAbs w => exact unofficial_blind h' (rmwOp_blind (fun _ _ => regs fun _ _ _ => rfl) h')
  | bne b => exact .next (branchOp_blind h')
  | cmpIndY b => exact .next (readOp_blind (fun _ => regs fun _ _ _ => rfl) h')
  | jamD2 => exact jam_blind h'
  | dcpIndY b => exact unofficial_blind h' (rmwOp_blind (fun _ _ => regs fun _ _ _ => rfl) h')
  | nopD4 b => exact unofficial_blind h' (readOp_blind (fun _ => regs fun _ _ _ => rfl) h')
  | cmpZpX b => exact .next (readOp_blind (fun _ => regs fun _ _ _ => rfl) h')
  | decZpX b => exact .next (rmwOp_blind (fun _ _ => regs fun _ _ _ => rfl) h')
  | dcpZpX b => exact unofficial_blind h' (rmwOp_blind (fun _ _ => regs fun _ _ _ => rfl) h')
  | cld => exact .next (impliedOp_blind (regs fun _ _ _ => rfl) h')
  | cmpAbsY w => exact .next (readOp_blind (fun _ => regs fun _ _ _ => rfl) h')
  | nopDA => exact unofficial_blind h' (impliedOp_blind (regs fun _ _ _ => rfl) h')
  | dcpAbsY w => exact unofficial_blind h' (rmwOp_blind (fun _ _ => regs fun _ _ _ => rfl) h')
  | nopDC w => exact unofficial_blind h' (readOp_blind (fun _ => regs fun _ _ _ => rfl) h')
  | cmpAbsX w => exact .next (readOp_blind (fun _ => regs fun _ _ _ => rfl) h')
  | decAbsX w => exact .next (rmwOp_blind (fun _ _ => regs fun _ _ _ => rfl) h')
  | dcpAbsX w => exact unofficial_blind h' (rmwOp_blind (fun _ _ => regs fun _ _ _ => rfl) h')
  | cpxImm b => exact .next (readOp_blind (fun _ => regs fun _ _ _ => rfl) h')
  | sbcIndX b => exact .next (readOp_blind (fun _ => regs fun _ _ _ => rfl) h')
  | nopE2 b => exact unofficial_blind h' (readOp_blind (fun _ => regs fun _ _ _ => rfl) h')
  | iscIndX b => exact unofficial_blind h' (rmwOp_blind (fun _ _ => regs fun _ _ _ => rfl) h')
  | cpxZp b => exact .next (readOp_blind (fun _ => regs fun _ _ _ => rfl) h')
  | sbcZp b => exact .next (readOp_blind (fun _ => regs fun _ _ _ => rfl) h')
  | incZp b => exact .next (rmwOp_blind (fun _ _ => regs fun _ _ _ => rfl) h')
  | iscZp b => exact unofficial_blind h' (rmwOp_blind (fun _ _ => regs fun _ _ _ => rfl) h')
  | inx => exact .next (impliedOp_blind (regs fun _ _ _ => rfl) h')
  | sbcImm b => exact .next (readOp_blind (fun _ => regs fun _ _ _ => rfl) h')
  | nop => exact .next (impliedOp_blind (regs fun _ _ _ => rfl) h')
  | sbcEB b => exact unofficial_blind h' (readOp_blind (fun _ => regs fun _ _ _ => rfl) h')
  | cpxAbs w => exact .next (readOp_blind (fun _ => regs fun _ _ _ => rfl) h')
  | sbcAbs w => exact .next (readOp_blind (fun _ => regs fun _ _ _ => rfl) h')
  | incAbs w => exact .next (rmwOp_blind (fun _ _ => regs fun _ _ _ => rfl) h')
  | iscAbs w => exact unofficial_blind h' (rmwOp_blind (fun _ _ => regs fun _ _ _ => rfl) h')
  | beq b => exact .next (branchOp_blind h')
  | sbcIndY b => exact .next (readOp_blind (fun _ => regs fun _ _ _ => rfl) h')
  | jamF2 => exact jam_blind h'
  | iscIndY b => exact unofficial_blind h' (rmwOp_blind (fun _ _ => regs fun _ _ _ => rfl) h')
  | nopF4 b => exact unofficial_blind h' (readOp_blind (fun _ => regs fun _ _ _ => rfl) h')
  | sbcZpX b => exact .next (readOp_blind (fun _ => regs fun _ _ _ => rfl) h')
  | incZpX b => exact .next (rmwOp_blind (fun _ _ => regs fun _ _ _ => rfl) h')
  | iscZpX b => exact unofficial_blind h' (rmwOp_blind (fun _ _ => regs fun _ _ _ => rfl) h')
  | sed => exact .next (impliedOp_blind (regs fun _ _ _ => rfl) h')
  | sbcAbsY w => exact .next (readOp_blind (fun _ => regs fun _ _ _ => rfl) h')
  | nopFA => exact unofficial_blind h' (impliedOp_blind (regs fun _ _ _ => rfl) h')
  | iscAbsY w => exact unofficial_blind h' (rmwOp_blind (fun _ _ => regs fun _ _ _ => rfl) h')
  | nopFC w => exact unofficial_blind h' (readOp_blind (fun _ => regs fun _ _ _ => rfl) h')
  | sbcAbsX w => exact .next (readOp_blind (fun _ => regs fun _ _ _ => rfl) h')
  | incAbsX w => exact .next (rmwOp_blind (fun _ _ => regs fun _ _ _ => rfl) h')
  | iscAbsX w => exact unofficial_blind h' (rmwOp_blind (fun _ _ => regs fun _ _ _ => rfl) h')

theorem dispatch_blind (k : Interrupt) : BlindToRecord (fun s => s.dispatch k) := by
  intro s t h
  have h1 := dummyRead_blind s.pc _ _ (dummyRead_blind s.pc _ _ h)
  obtain ⟨tr, lc, rfl⟩ := h
  obtain ⟨_, _, e⟩ := enterException_blind false (k.entryI s.cfg) k.vector _ _ h1
  refine finish_blind 7 _ _ ?_
  cases k with
  | nmi => exact ⟨_, _, congrArg (fun u : State => { u with nmiPending := false }) e⟩
  | irq => exact ⟨_, _, e⟩

theorem cpuStep_blind {s t : State} (h : SameButRecord s t) : SameOutcome s.cpuStep t.cpuStep := by
  have h' := h
  obtain ⟨tr, lc, rfl⟩ := h
  unfold State.cpuStep
  simp only
  split
  · exact .next h'
  · split
    · exact .next (dispatch_blind .nmi _ _ h')
    · split
      · exact .next (dispatch_blind .irq _ _ h')
      · have hi : State.instruction { s with trace := tr, lastCost := lc } = s.instruction := by
          unfold State.instruction
          rw [fetchedBytes_blind _ h']
          rfl
        unfold State.runInstruction
        rw [hi]
        cases s.instruction with
        | error e => exact .fault _
        | ok p => exact exec_blind p.1 (fetchN_blind _ _ _ h')

theorem startFromVector_blind : BlindToRecord State.startFromVector := by
  rintro _ _ ⟨tr, lc, rfl⟩; exact ⟨_, _, rfl⟩

theorem suppressedPush_blind : BlindToRecord State.suppressedPush := by
  intro s t h
  obtain ⟨_, _, e⟩ := dummyRead_blind (stackSlot s.sp) _ _ h
  obtain ⟨tr, lc, rfl⟩ := h
  exact ⟨_, _, congrArg (fun u : State => { u with sp := s.sp - 1 }) e⟩

theorem softReset_blind : BlindToRecord State.softReset := by
  intro s t h
  have h0 : SameButRecord { s with devices := Config.busAfterReset s.devices }
      { t with devices := Config.busAfterReset t.devices } := by obtain ⟨_, _, rfl⟩ := h; exact ⟨_, _, rfl⟩
  have h1 := dummyRead_blind s.pc _ _ (dummyRead_blind s.pc _ _ h0)
  obtain ⟨a, b, e⟩ := startFromVector_blind _ _
    (suppressedPush_blind _ _ (suppressedPush_blind _ _ (suppressedPush_blind _ _ h1)))
  obtain ⟨tr, lc, rfl⟩ := h
  exact ⟨a, some 7, congrArg (fun u : State =>
    { u with cycles := (u.cycles + 7) % 2 ^ u.cfg.cycleWidth, lastCost := some 7 }) e⟩

theorem powerOn_blind (d : Draw) : BlindToRecord (fun s => s.powerOn d) := by
  rintro _ _ ⟨tr, lc, rfl⟩; exact ⟨_, _, rfl⟩

theorem load_blind (k : Snapshot) : BlindToRecord (fun s => s.load k) := by
  rintro _ _ ⟨tr, lc, rfl⟩; exact ⟨_, _, rfl⟩

theorem arrive_blind (b : Boundary) : BlindToRecord (fun s => s.arrive b) := by
  rintro s _ ⟨tr, lc, rfl⟩
  simp only [arrive_eq]
  exact ⟨_, _, rfl⟩

/-- A step from two states that differ in the record and the last cost alone ends alike. -/
theorem step_blind {s t : State} (h : SameButRecord s t) : SameOutcome (step s) (step t) := by
  have hi : t.inputs = s.inputs := by obtain ⟨_, _, rfl⟩ := h; rfl
  have hr (rest : List Boundary) : SameButRecord { s with inputs := rest } { t with inputs := rest } := by
    obtain ⟨_, _, rfl⟩ := h; exact ⟨_, _, rfl⟩
  unfold step
  rw [hi]
  cases s.inputs with
  | nil => exact cpuStep_blind h
  | cons b rest =>
    have ha := arrive_blind b _ _ (hr rest)
    simp only [State.boundaryStep]
    cases b.call with
    | none => exact cpuStep_blind ha
    | some c =>
      cases c with
      | soft => exact .next (softReset_blind _ _ ha)
      | powerOn d => exact .next (powerOn_blind d _ _ ha)
      | load k => exact .next (load_blind k _ _ ha)

/-- A snapshot does not hold the record. -/
theorem save_blind {s t : State} (h : SameButRecord s t) : t.save = s.save := by obtain ⟨_, _, rfl⟩ := h; rfl

end Sys2Proof.Machine
end

