-- ==== Sys2Proof/Tests/Slice0.lean ====
section
/-! SUPPORT. Tests: ill-formed rows and byte strings, every opcode's decoding, one step of every mnemonic (from the
vectors of spec/95_test_vectors.md, which the spec computed from its rules), and a witness for the hypotheses of every
statement. -/

namespace Sys2Proof.Machine

open Sys2Proof

/-! ## WellFormed: an ill-formed term for each check -/

/-- A row that passes every check. -/
def goodRow : Row := ⟨"LDA", .absoluteX, some 4, true, .read, .official⟩

theorem test_wf_good : goodRow.wellFormed = true := by decide
theorem test_wf_penalty : ({ goodRow with mode := .absolute } : Row).penaltyOk = false := by decide
theorem test_wf_penalty_missing : ({ goodRow with pagePenalty := false } : Row).wellFormed = false := by decide
theorem test_wf_relative : ({ goodRow with mode := .relative, pagePenalty := false } : Row).relativeOk = false := by decide
theorem test_wf_accumulator :
    ({ goodRow with mode := .accumulator, pagePenalty := false } : Row).accumulatorOk = false := by decide
theorem test_wf_indirect : ({ goodRow with mode := .indirect, pagePenalty := false } : Row).indirectOk = false := by decide
theorem test_wf_store :
    ({ goodRow with mode := .immediate, access := .write, pagePenalty := false } : Row).storeOk = false := by decide
theorem test_wf_cycles : ({ goodRow with cycles := none } : Row).cyclesOk = false := by decide
theorem test_wf_all : [({ goodRow with mode := .absolute } : Row), { goodRow with mode := .relative, pagePenalty := false },
    { goodRow with mode := .accumulator, pagePenalty := false }, { goodRow with mode := .indirect, pagePenalty := false },
    { goodRow with mode := .immediate, access := .write, pagePenalty := false }, { goodRow with cycles := none }].any
      Row.wellFormed = false := by decide
theorem test_wf_fits : (goodRow.fits [0xBD, 0xF0], goodRow.fits [0xBD, 0xF0, 0x12], goodRow.fits [0xBD, 0xF0, 0x12, 0x00]) =
    (false, true, false) := by decide

/-! ## Decoding: every opcode byte of spec/opcode_table.json with an operand, low byte first (30_encoding.md R84, R86) -/

/-- The table word decodes to the instruction, and encoding it gives the word's bytes. -/
def decodes (row : Nat × Nat × Instr) : Bool :=
  decide (decodeTableWord row.1 row.2.1 = some row.2.2) &&
    decide (encode row.2.2 = (bytesOfNat 3 row.2.1).take (row.1 / 8))

theorem test_decode_0x : [
      (8, 0x00, .brk), (16, 0x5A01, .oraIndX 0x5A), (8, 0x02, .jam02), (16, 0x5A03, .sloIndX 0x5A),
      (16, 0x5A04, .nop04 0x5A), (16, 0x5A05, .oraZp 0x5A), (16, 0x5A06, .aslZp 0x5A),
      (16, 0x5A07, .sloZp 0x5A), (8, 0x08, .php), (16, 0x5A09, .oraImm 0x5A), (8, 0x0a, .aslAcc),
      (16, 0x5A0B, .anc0B 0x5A), (24, 0xBEEF0C, .nop0C 0xBEEF), (24, 0xBEEF0D, .oraAbs 0xBEEF),
      (24, 0xBEEF0E, .aslAbs 0xBEEF), (24, 0xBEEF0F, .sloAbs 0xBEEF)].all decodes = true := by decide

theorem test_decode_1x : [
      (16, 0x5A10, .bpl 0x5A), (16, 0x5A11, .oraIndY 0x5A), (8, 0x12, .jam12), (16, 0x5A13, .sloIndY 0x5A),
      (16, 0x5A14, .nop14 0x5A), (16, 0x5A15, .oraZpX 0x5A), (16, 0x5A16, .aslZpX 0x5A),
      (16, 0x5A17, .sloZpX 0x5A), (8, 0x18, .clc), (24, 0xBEEF19, .oraAbsY 0xBEEF), (8, 0x1a, .nop1A),
      (24, 0xBEEF1B, .sloAbsY 0xBEEF), (24, 0xBEEF1C, .nop1C 0xBEEF), (24, 0xBEEF1D, .oraAbsX 0xBEEF),
      (24, 0xBEEF1E, .aslAbsX 0xBEEF), (24, 0xBEEF1F, .sloAbsX 0xBEEF)].all decodes = true := by decide

theorem test_decode_2x : [
      (24, 0xBEEF20, .jsr 0xBEEF), (16, 0x5A21, .andIndX 0x5A), (8, 0x22, .jam22),
      (16, 0x5A23, .rlaIndX 0x5A), (16, 0x5A24, .bitZp 0x5A), (16, 0x5A25, .andZp 0x5A),
      (16, 0x5A26, .rolZp 0x5A), (16, 0x5A27, .rlaZp 0x5A), (8, 0x28, .plp), (16, 0x5A29, .andImm 0x5A),
      (8, 0x2a, .rolAcc), (16, 0x5A2B, .anc2B 0x5A), (24, 0xBEEF2C, .bitAbs 0xBEEF),
      (24, 0xBEEF2D, .andAbs 0xBEEF), (24, 0xBEEF2E, .rolAbs 0xBEEF), (24, 0xBEEF2F, .rlaAbs 0xBEEF)].all decodes = true := by decide

theorem test_decode_3x : [
      (16, 0x5A30, .bmi 0x5A), (16, 0x5A31, .andIndY 0x5A), (8, 0x32, .jam32), (16, 0x5A33, .rlaIndY 0x5A),
      (16, 0x5A34, .nop34 0x5A), (16, 0x5A35, .andZpX 0x5A), (16, 0x5A36, .rolZpX 0x5A),
      (16, 0x5A37, .rlaZpX 0x5A), (8, 0x38, .sec), (24, 0xBEEF39, .andAbsY 0xBEEF), (8, 0x3a, .nop3A),
      (24, 0xBEEF3B, .rlaAbsY 0xBEEF), (24, 0xBEEF3C, .nop3C 0xBEEF), (24, 0xBEEF3D, .andAbsX 0xBEEF),
      (24, 0xBEEF3E, .rolAbsX 0xBEEF), (24, 0xBEEF3F, .rlaAbsX 0xBEEF)].all decodes = true := by decide

theorem test_decode_4x : [
      (8, 0x40, .rti), (16, 0x5A41, .eorIndX 0x5A), (8, 0x42, .jam42), (16, 0x5A43, .sreIndX 0x5A),
      (16, 0x5A44, .nop44 0x5A), (16, 0x5A45, .eorZp 0x5A), (16, 0x5A46, .lsrZp 0x5A),
      (16, 0x5A47, .sreZp 0x5A), (8, 0x48, .pha), (16, 0x5A49, .eorImm 0x5A), (8, 0x4a, .lsrAcc),
      (16, 0x5A4B, .alr 0x5A), (24, 0xBEEF4C, .jmpAbs 0xBEEF), (24, 0xBEEF4D, .eorAbs 0xBEEF),
      (24, 0xBEEF4E, .lsrAbs 0xBEEF), (24, 0xBEEF4F, .sreAbs 0xBEEF)].all decodes = true := by decide

theorem test_decode_5x : [
      (16, 0x5A50, .bvc 0x5A), (16, 0x5A51, .eorIndY 0x5A), (8, 0x52, .jam52), (16, 0x5A53, .sreIndY 0x5A),
      (16, 0x5A54, .nop54 0x5A), (16, 0x5A55, .eorZpX 0x5A), (16, 0x5A56, .lsrZpX 0x5A),
      (16, 0x5A57, .sreZpX 0x5A), (8, 0x58, .cli), (24, 0xBEEF59, .eorAbsY 0xBEEF), (8, 0x5a, .nop5A),
      (24, 0xBEEF5B, .sreAbsY 0xBEEF), (24, 0xBEEF5C, .nop5C 0xBEEF), (24, 0xBEEF5D, .eorAbsX 0xBEEF),
      (24, 0xBEEF5E, .lsrAbsX 0xBEEF), (24, 0xBEEF5F, .sreAbsX 0xBEEF)].all decodes = true := by decide

theorem test_decode_6x : [
      (8, 0x60, .rts), (16, 0x5A61, .adcIndX 0x5A), (8, 0x62, .jam62), (16, 0x5A63, .rraIndX 0x5A),
      (16, 0x5A64, .nop64 0x5A), (16, 0x5A65, .adcZp 0x5A), (16, 0x5A66, .rorZp 0x5A),
      (16, 0x5A67, .rraZp 0x5A), (8, 0x68, .pla), (16, 0x5A69, .adcImm 0x5A), (8, 0x6a, .rorAcc),
      (16, 0x5A6B, .arr 0x5A), (24, 0xBEEF6C, .jmpInd 0xBEEF), (24, 0xBEEF6D, .adcAbs 0xBEEF),
      (24, 0xBEEF6E, .rorAbs 0xBEEF), (24, 0xBEEF6F, .rraAbs 0xBEEF)].all decodes = true := by decide

theorem test_decode_7x : [
      (16, 0x5A70, .bvs 0x5A), (16, 0x5A71, .adcIndY 0x5A), (8, 0x72, .jam72), (16, 0x5A73, .rraIndY 0x5A),
      (16, 0x5A74, .nop74 0x5A), (16, 0x5A75, .adcZpX 0x5A), (16, 0x5A76, .rorZpX 0x5A),
      (16, 0x5A77, .rraZpX 0x5A), (8, 0x78, .sei), (24, 0xBEEF79, .adcAbsY 0xBEEF), (8, 0x7a, .nop7A),
      (24, 0xBEEF7B, .rraAbsY 0xBEEF), (24, 0xBEEF7C, .nop7C 0xBEEF), (24, 0xBEEF7D, .adcAbsX 0xBEEF),
      (24, 0xBEEF7E, .rorAbsX 0xBEEF), (24, 0xBEEF7F, .rraAbsX 0xBEEF)].all decodes = true := by decide

theorem test_decode_8x : [
      (16, 0x5A80, .nop80 0x5A), (16, 0x5A81, .staIndX 0x5A), (16, 0x5A82, .nop82 0x5A),
      (16, 0x5A83, .saxIndX 0x5A), (16, 0x5A84, .styZp 0x5A), (16, 0x5A85, .staZp 0x5A),
      (16, 0x5A86, .stxZp 0x5A), (16, 0x5A87, .saxZp 0x5A), (8, 0x88, .dey), (16, 0x5A89, .nop89 0x5A),
      (8, 0x8a, .txa), (16, 0x5A8B, .ane 0x5A), (24, 0xBEEF8C, .styAbs 0xBEEF),
      (24, 0xBEEF8D, .staAbs 0xBEEF), (24, 0xBEEF8E, .stxAbs 0xBEEF), (24, 0xBEEF8F, .saxAbs 0xBEEF)].all decodes = true := by decide

theorem test_decode_9x : [
      (16, 0x5A90, .bcc 0x5A), (16, 0x5A91, .staIndY 0x5A), (8, 0x92, .jam92), (16, 0x5A93, .shaIndY 0x5A),
      (16, 0x5A94, .styZpX 0x5A), (16, 0x5A95, .staZpX 0x5A), (16, 0x5A96, .stxZpY 0x5A),
      (16, 0x5A97, .saxZpY 0x5A), (8, 0x98, .tya), (24, 0xBEEF99, .staAbsY 0xBEEF), (8, 0x9a, .txs),
      (24, 0xBEEF9B, .tas 0xBEEF), (24, 0xBEEF9C, .shy 0xBEEF), (24, 0xBEEF9D, .staAbsX 0xBEEF),
      (24, 0xBEEF9E, .shx 0xBEEF), (24, 0xBEEF9F, .shaAbsY 0xBEEF)].all decodes = true := by decide

theorem test_decode_Ax : [
      (16, 0x5AA0, .ldyImm 0x5A), (16, 0x5AA1, .ldaIndX 0x5A), (16, 0x5AA2, .ldxImm 0x5A),
      (16, 0x5AA3, .laxIndX 0x5A), (16, 0x5AA4, .ldyZp 0x5A), (16, 0x5AA5, .ldaZp 0x5A),
      (16, 0x5AA6, .ldxZp 0x5A), (16, 0x5AA7, .laxZp 0x5A), (8, 0xa8, .tay), (16, 0x5AA9, .ldaImm 0x5A),
      (8, 0xaa, .tax), (16, 0x5AAB, .lxa 0x5A), (24, 0xBEEFAC, .ldyAbs 0xBEEF),
      (24, 0xBEEFAD, .ldaAbs 0xBEEF), (24, 0xBEEFAE, .ldxAbs 0xBEEF), (24, 0xBEEFAF, .laxAbs 0xBEEF)].all decodes = true := by decide

theorem test_decode_Bx : [
      (16, 0x5AB0, .bcs 0x5A), (16, 0x5AB1, .ldaIndY 0x5A), (8, 0xb2, .jamB2), (16, 0x5AB3, .laxIndY 0x5A),
      (16, 0x5AB4, .ldyZpX 0x5A), (16, 0x5AB5, .ldaZpX 0x5A), (16, 0x5AB6, .ldxZpY 0x5A),
      (16, 0x5AB7, .laxZpY 0x5A), (8, 0xb8, .clv), (24, 0xBEEFB9, .ldaAbsY 0xBEEF), (8, 0xba, .tsx),
      (24, 0xBEEFBB, .las 0xBEEF), (24, 0xBEEFBC, .ldyAbsX 0xBEEF), (24, 0xBEEFBD, .ldaAbsX 0xBEEF),
      (24, 0xBEEFBE, .ldxAbsY 0xBEEF), (24, 0xBEEFBF, .laxAbsY 0xBEEF)].all decodes = true := by decide

theorem test_decode_Cx : [
      (16, 0x5AC0, .cpyImm 0x5A), (16, 0x5AC1, .cmpIndX 0x5A), (16, 0x5AC2, .nopC2 0x5A),
      (16, 0x5AC3, .dcpIndX 0x5A), (16, 0x5AC4, .cpyZp 0x5A), (16, 0x5AC5, .cmpZp 0x5A),
      (16, 0x5AC6, .decZp 0x5A), (16, 0x5AC7, .dcpZp 0x5A), (8, 0xc8, .iny), (16, 0x5AC9, .cmpImm 0x5A),
      (8, 0xca, .dex), (16, 0x5ACB, .axs 0x5A), (24, 0xBEEFCC, .cpyAbs 0xBEEF),
      (24, 0xBEEFCD, .cmpAbs 0xBEEF), (24, 0xBEEFCE, .decAbs 0xBEEF), (24, 0xBEEFCF, .dcpAbs 0xBEEF)].all decodes = true := by decide

theorem test_decode_Dx : [
      (16, 0x5AD0, .bne 0x5A), (16, 0x5AD1, .cmpIndY 0x5A), (8, 0xd2, .jamD2), (16, 0x5AD3, .dcpIndY 0x5A),
      (16, 0x5AD4, .nopD4 0x5A), (16, 0x5AD5, .cmpZpX 0x5A), (16, 0x5AD6, .decZpX 0x5A),
      (16, 0x5AD7, .dcpZpX 0x5A), (8, 0xd8, .cld), (24, 0xBEEFD9, .cmpAbsY 0xBEEF), (8, 0xda, .nopDA),
      (24, 0xBEEFDB, .dcpAbsY 0xBEEF), (24, 0xBEEFDC, .nopDC 0xBEEF), (24, 0xBEEFDD, .cmpAbsX 0xBEEF),
      (24, 0xBEEFDE, .decAbsX 0xBEEF), (24, 0xBEEFDF, .dcpAbsX 0xBEEF)].all decodes = true := by decide

theorem test_decode_Ex : [
      (16, 0x5AE0, .cpxImm 0x5A), (16, 0x5AE1, .sbcIndX 0x5A), (16, 0x5AE2, .nopE2 0x5A),
      (16, 0x5AE3, .iscIndX 0x5A), (16, 0x5AE4, .cpxZp 0x5A), (16, 0x5AE5, .sbcZp 0x5A),
      (16, 0x5AE6, .incZp 0x5A), (16, 0x5AE7, .iscZp 0x5A), (8, 0xe8, .inx), (16, 0x5AE9, .sbcImm 0x5A),
      (8, 0xea, .nop), (16, 0x5AEB, .sbcEB 0x5A), (24, 0xBEEFEC, .cpxAbs 0xBEEF),
      (24, 0xBEEFED, .sbcAbs 0xBEEF), (24, 0xBEEFEE, .incAbs 0xBEEF), (24, 0xBEEFEF, .iscAbs 0xBEEF)].all decodes = true := by decide

theorem test_decode_Fx : [
      (16, 0x5AF0, .beq 0x5A), (16, 0x5AF1, .sbcIndY 0x5A), (8, 0xf2, .jamF2), (16, 0x5AF3, .iscIndY 0x5A),
      (16, 0x5AF4, .nopF4 0x5A), (16, 0x5AF5, .sbcZpX 0x5A), (16, 0x5AF6, .incZpX 0x5A),
      (16, 0x5AF7, .iscZpX 0x5A), (8, 0xf8, .sed), (24, 0xBEEFF9, .sbcAbsY 0xBEEF), (8, 0xfa, .nopFA),
      (24, 0xBEEFFB, .iscAbsY 0xBEEF), (24, 0xBEEFFC, .nopFC 0xBEEF), (24, 0xBEEFFD, .sbcAbsX 0xBEEF),
      (24, 0xBEEFFE, .incAbsX 0xBEEF), (24, 0xBEEFFF, .iscAbsX 0xBEEF)].all decodes = true := by decide

/-- Bytes of an instruction are missing: rejected by name. -/
theorem test_decode_truncated : (match decode [0xAD, 0x34] with | .error e => decide (e = .truncated 0xAD) | .ok _ => false) =
    true := by decide
theorem test_decode_empty : (match decode [] with | .error e => decide (e = .empty) | .ok _ => false) = true := by decide
/-- Bits from `nbits` on are 0. -/
theorem test_decode_short : decodeTableWord 8 0xAD = some (.ldaAbs 0) := by decide

/-! ## One step (95_test_vectors.md, conventions) -/

def noFlags : Flags := { c := false, z := false, i := false, d := false, v := false, n := false }

def policyCfg (k : Policy) : Config := { Config.reference with policy := k }

/-- The vectors' start: A, X, Y and all flags 0, RAM 0, nothing pending. -/
def start : State :=
  { State.reset with
    a := 0, x := 0, y := 0, sp := 0xFD, pc := 0x0200, p := noFlags, cycles := 0, dataBus := 0, devices := 0, trace := []
    lastCost := none }

/-- Bytes of RAM or program ROM set. -/
def State.setCells (s : State) (cells : List Host.Cell) : State :=
  { s with mem := cells.foldl (fun m c => m.write c.1 c.2) s.mem }

/-- `s` with code at PC, and further bytes. -/
def program (s : State) (pc : Addr) (code : List Byte) (cells : List Host.Cell) : State :=
  { s.setCells cells with pc := pc, mem := Memory.writeBytes (s.setCells cells).mem pc.toNat code }

/-- One step goes on; registers, flags, latches and inputs are `e`'s, the cells hold these bytes, the step returned this
cost, and it is what the counter gained. -/
def gives (s : State) (e : State → State) (cells : List Host.Cell) (cost : Option Nat) : Bool :=
  match step s with
  | .next t => decide (t.cpu = (e s).cpu) && cells.all (fun c => decide (t.mem.read c.1 = some c.2)) &&
      decide (t.lastCost = cost) && decide (t.cycles = s.cycles + cost.getD 0)
  | .fault _ => false
  | .refused _ => false

/-- One step is refused, naming the opcode byte. -/
def refuses (s : State) (op : Byte) : Bool :=
  match step s with
  | .next _ => false
  | .fault _ => false
  | .refused r => decide (r = .unofficial op)

/-- The accesses of one step, oldest first. -/
def accesses (s : State) : List BusEvent :=
  match step s with
  | .next t => (newAccesses s t).reverse
  | .fault _ => []
  | .refused _ => []

/-- V6 (R120): LDA ($FE,X) (pointer wraps in zero page). -/
theorem test_V6_ldaIndX :
    gives (program ({ start with x := 0x01 }) 0x0200 [0xA1, 0xFE] [(0x000, 0x12), (0x0ff, 0x34), (0x234, 0x99)]) (fun s => { s with a := 0x99, pc := 0x0202, p := { s.p with n := true } })
      [] (some 6) = true := by decide

/-- V10 (R121): LDX $FF,Y (zp,Y wraps). -/
theorem test_V10_ldxZpY :
    gives (program ({ start with y := 0x02 }) 0x0200 [0xB6, 0xFF] [(0x001, 0x80)]) (fun s => { s with x := 0x80, pc := 0x0202, p := { s.p with n := true } })
      [] (some 4) = true := by decide

/-- V12 (R122): LDY $02FF,X (page crossed). -/
theorem test_V12_ldyAbsX :
    gives (program ({ start with x := 0x01 }) 0x0200 [0xBC, 0xFF, 0x02] [(0x300, 0x01)]) (fun s => { s with y := 0x01, pc := 0x0203 })
      [] (some 5) = true := by decide

/-- V13 (R123): STA $02FF,X (no penalty on write). -/
theorem test_V13_staAbsX :
    gives (program ({ start with a := 0x77, x := 0x01 }) 0x0200 [0x9D, 0xFF, 0x02] []) (fun s => { s with pc := 0x0203 })
      [(0x300, 0x77)] (some 5) = true := by decide

/-- V15 (R123): STA $1FFF (mirror of 0x07FF). -/
theorem test_V15_staAbs :
    gives (program ({ start with a := 0xAB }) 0x0200 [0x8D, 0xFF, 0x1F] []) (fun s => { s with pc := 0x0203 })
      [(0x7ff, 0xAB)] (some 4) = true := by decide

/-- V16 (R124): STX $FE,Y (zp,Y wraps). -/
theorem test_V16_stxZpY :
    gives (program ({ start with x := 0x11, y := 0x03 }) 0x0200 [0x96, 0xFE] []) (fun s => { s with pc := 0x0202 })
      [(0x001, 0x11)] (some 4) = true := by decide

/-- V17 (R125): STY $80,X. -/
theorem test_V17_styZpX :
    gives (program ({ start with y := 0x22, x := 0x90 }) 0x0200 [0x94, 0x80] []) (fun s => { s with pc := 0x0202 })
      [(0x010, 0x22)] (some 4) = true := by decide

/-- V18 (R130): TAX. -/
theorem test_V18_tax :
    gives (program ({ start with a := 0x00, x := 0x12 }) 0x0200 [0xAA] []) (fun s => { s with x := 0x00, pc := 0x0201, p := { s.p with z := true, n := false } })
      [] (some 2) = true := by decide

/-- V19 (R131): TAY. -/
theorem test_V19_tay :
    gives (program ({ start with a := 0x80 }) 0x0200 [0xA8] []) (fun s => { s with y := 0x80, pc := 0x0201, p := { s.p with z := false, n := true } })
      [] (some 2) = true := by decide

/-- V20 (R132): TXA. -/
theorem test_V20_txa :
    gives (program ({ start with x := 0xFF }) 0x0200 [0x8A] []) (fun s => { s with a := 0xFF, pc := 0x0201, p := { s.p with z := false, n := true } })
      [] (some 2) = true := by decide

/-- V21 (R133): TYA. -/
theorem test_V21_tya :
    gives (program ({ start with y := 0x01, a := 0x00 }) 0x0200 [0x98] []) (fun s => { s with a := 0x01, pc := 0x0201, p := { s.p with z := false, n := false } })
      [] (some 2) = true := by decide

/-- V22 (R134): TSX. -/
theorem test_V22_tsx :
    gives (program ({ start with sp := 0x00 }) 0x0200 [0xBA] []) (fun s => { s with pc := 0x0201, p := { s.p with z := true, n := false } })
      [] (some 2) = true := by decide

/-- V23 (R135): TXS (no flags). -/
theorem test_V23_txs :
    gives (program ({ start with x := 0x00 }) 0x0200 [0x9A] []) (fun s => { s with sp := 0x00, pc := 0x0201, p := { s.p with z := false, n := false } })
      [] (some 2) = true := by decide

/-- V24 (R136): PHA at S=0x00 (wraps). -/
theorem test_V24_pha :
    gives (program ({ start with a := 0x11, sp := 0x00 }) 0x0200 [0x48] []) (fun s => { s with sp := 0xFF, pc := 0x0201 })
      [(0x100, 0x11)] (some 3) = true := by decide

/-- V25 (R137): PHP with C=1, I=1. -/
theorem test_V25_php :
    gives (program ({ start with p := { noFlags with c := true, i := true } }) 0x0200 [0x08] []) (fun s => { s with sp := 0xFC, pc := 0x0201 })
      [(0x1fd, 0x35)] (some 3) = true := by decide

/-- V27 (R138): PLA at S=0xFF (wraps). -/
theorem test_V27_pla :
    gives (program ({ start with sp := 0xFF }) 0x0200 [0x68] [(0x100, 0x80)]) (fun s => { s with a := 0x80, sp := 0x00, pc := 0x0201, p := { s.p with z := false, n := true } })
      [] (some 4) = true := by decide

/-- V28 (R139): PLP of 0xFF. -/
theorem test_V28_plp :
    gives (program ({ start with sp := 0xFC }) 0x0200 [0x28] [(0x1fd, 0xFF)]) (fun s => { s with sp := 0xFD, pc := 0x0201, p := { s.p with c := true, z := true, i := true, d := true, v := true, n := true } })
      [] (some 4) = true := by decide

/-- V29 (R139): PLP of 0x30 (bits 4, 5 discarded). -/
theorem test_V29_plp :
    gives (program ({ start with sp := 0xFC, p := { noFlags with c := true, z := true, n := true } }) 0x0200 [0x28] [(0x1fd, 0x30)]) (fun s => { s with sp := 0xFD, pc := 0x0201, p := { s.p with c := false, z := false, n := false } })
      [] (some 4) = true := by decide

/-- V36 (R162): ADC #$90. -/
theorem test_V36_adcImm :
    gives (program ({ start with a := 0xD0 }) 0x0200 [0x69, 0x90] []) (fun s => { s with a := 0x60, pc := 0x0202, p := { s.p with c := true, z := false, v := true, n := false } })
      [] (some 2) = true := by decide

/-- V38 (R162): ADC #$00. -/
theorem test_V38_adcImm :
    gives (program ({ start with a := 0xFF, p := { noFlags with c := true } }) 0x0200 [0x69, 0x00] []) (fun s => { s with a := 0x00, pc := 0x0202, p := { s.p with c := true, z := true, v := false, n := false } })
      [] (some 2) = true := by decide

/-- V47 (R163): SBC #$70. -/
theorem test_V47_sbcImm :
    gives (program ({ start with a := 0xD0, p := { noFlags with c := true } }) 0x0200 [0xE9, 0x70] []) (fun s => { s with a := 0x60, pc := 0x0202, p := { s.p with c := true, z := false, v := true, n := false } })
      [] (some 2) = true := by decide

/-- V51 (R163): SBC #$05. -/
theorem test_V51_sbcImm :
    gives (program ({ start with a := 0x05 }) 0x0200 [0xE9, 0x05] []) (fun s => { s with a := 0xFF, pc := 0x0202, p := { s.p with c := false, z := false, v := false, n := true } })
      [] (some 2) = true := by decide

/-- V54 (R164): AND #$3C. -/
theorem test_V54_andImm :
    gives (program ({ start with a := 0xF0 }) 0x0200 [0x29, 0x3C] []) (fun s => { s with a := 0x30, pc := 0x0202, p := { s.p with z := false, n := false } })
      [] (some 2) = true := by decide

/-- V56 (R165): ORA #$80. -/
theorem test_V56_oraImm :
    gives (program ({ start with a := 0x01 }) 0x0200 [0x09, 0x80] []) (fun s => { s with a := 0x81, pc := 0x0202, p := { s.p with z := false, n := true } })
      [] (some 2) = true := by decide

/-- V57 (R166): EOR #$FF. -/
theorem test_V57_eorImm :
    gives (program ({ start with a := 0xFF }) 0x0200 [0x49, 0xFF] []) (fun s => { s with a := 0x00, pc := 0x0202, p := { s.p with z := true, n := false } })
      [] (some 2) = true := by decide

/-- V59 (R167): CMP #$01 (less). -/
theorem test_V59_cmpImm :
    gives (program ({ start with a := 0x00 }) 0x0200 [0xC9, 0x01] []) (fun s => { s with pc := 0x0202, p := { s.p with c := false, z := false, n := true } })
      [] (some 2) = true := by decide

/-- V60 (R167): CMP #$00 (A=0x80). -/
theorem test_V60_cmpImm :
    gives (program ({ start with a := 0x80 }) 0x0200 [0xC9, 0x00] []) (fun s => { s with pc := 0x0202, p := { s.p with c := true, z := false, n := true } })
      [] (some 2) = true := by decide

/-- V62 (R168): CPX #$0A. -/
theorem test_V62_cpxImm :
    gives (program ({ start with x := 0x05 }) 0x0200 [0xE0, 0x0A] []) (fun s => { s with pc := 0x0202, p := { s.p with c := false, z := false, n := true } })
      [] (some 2) = true := by decide

/-- V63 (R169): CPY #$FF. -/
theorem test_V63_cpyImm :
    gives (program ({ start with y := 0xFF }) 0x0200 [0xC0, 0xFF] []) (fun s => { s with pc := 0x0202, p := { s.p with c := true, z := true, n := false } })
      [] (some 2) = true := by decide

/-- V64 (R170): BIT $10. -/
theorem test_V64_bitZp :
    gives (program ({ start with a := 0x01 }) 0x0200 [0x24, 0x10] [(0x010, 0xC0)]) (fun s => { s with pc := 0x0202, p := { s.p with z := true, v := true, n := true } })
      [] (some 3) = true := by decide

/-- V67 (R180): INC $10 of 0x7F. -/
theorem test_V67_incZp :
    gives (program start 0x0200 [0xE6, 0x10] [(0x010, 0x7F)]) (fun s => { s with pc := 0x0202, p := { s.p with z := false, n := true } })
      [(0x010, 0x80)] (some 5) = true := by decide

/-- V70 (R181): DEC $0300 of 0x80. -/
theorem test_V70_decAbs :
    gives (program start 0x0200 [0xCE, 0x00, 0x03] [(0x300, 0x80)]) (fun s => { s with pc := 0x0203, p := { s.p with z := false, n := false } })
      [(0x300, 0x7F)] (some 6) = true := by decide

/-- V71 (R182): INX of 0xFF. -/
theorem test_V71_inx :
    gives (program ({ start with x := 0xFF }) 0x0200 [0xE8] []) (fun s => { s with x := 0x00, pc := 0x0201, p := { s.p with z := true, n := false } })
      [] (some 2) = true := by decide

/-- V72 (R183): INY of 0x7F. -/
theorem test_V72_iny :
    gives (program ({ start with y := 0x7F }) 0x0200 [0xC8] []) (fun s => { s with y := 0x80, pc := 0x0201, p := { s.p with z := false, n := true } })
      [] (some 2) = true := by decide

/-- V73 (R184): DEX of 0x00. -/
theorem test_V73_dex :
    gives (program ({ start with x := 0x00 }) 0x0200 [0xCA] []) (fun s => { s with x := 0xFF, pc := 0x0201, p := { s.p with z := false, n := true } })
      [] (some 2) = true := by decide

/-- V74 (R185): DEY of 0x01. -/
theorem test_V74_dey :
    gives (program ({ start with y := 0x01 }) 0x0200 [0x88] []) (fun s => { s with y := 0x00, pc := 0x0201, p := { s.p with z := true, n := false } })
      [] (some 2) = true := by decide

/-- V76 (R186): ASL $10 of 0x41. -/
theorem test_V76_aslZp :
    gives (program start 0x0200 [0x06, 0x10] [(0x010, 0x41)]) (fun s => { s with pc := 0x0202, p := { s.p with c := false, z := false, n := true } })
      [(0x010, 0x82)] (some 5) = true := by decide

/-- V78 (R187): LSR A of 0x81. -/
theorem test_V78_lsrAcc :
    gives (program ({ start with a := 0x81, p := { noFlags with n := true } }) 0x0200 [0x4A] []) (fun s => { s with a := 0x40, pc := 0x0201, p := { s.p with c := true, z := false, n := false } })
      [] (some 2) = true := by decide

/-- V80 (R188): ROL A of 0x40, C=1. -/
theorem test_V80_rolAcc :
    gives (program ({ start with a := 0x40, p := { noFlags with c := true } }) 0x0200 [0x2A] []) (fun s => { s with a := 0x81, pc := 0x0201, p := { s.p with c := false, z := false, n := true } })
      [] (some 2) = true := by decide

/-- V83 (R189): ROR $10,X of 0x01, C=1. -/
theorem test_V83_rorZpX :
    gives (program ({ start with x := 0x01, p := { noFlags with c := true } }) 0x0200 [0x76, 0x10] [(0x011, 0x01)]) (fun s => { s with pc := 0x0202, p := { s.p with c := true, z := false, n := true } })
      [(0x011, 0x80)] (some 6) = true := by decide

/-- V84 (R200): JMP $C000. -/
theorem test_V84_jmpAbs :
    gives (program start 0x0200 [0x4C, 0x00, 0xC0] []) (fun s => { s with pc := 0xC000 })
      [] (some 3) = true := by decide

/-- V85 (R200): JMP ($02FF) (page-wrap bug). -/
theorem test_V85_jmpInd :
    gives (program start 0x0400 [0x6C, 0xFF, 0x02] [(0x200, 0x12), (0x2ff, 0x34), (0x300, 0x56)]) (fun s => { s with pc := 0x1234 })
      [] (some 5) = true := by decide

/-- V87 (R201): JSR $8000 at 0x0200. -/
theorem test_V87_jsr :
    gives (program start 0x0200 [0x20, 0x00, 0x80] []) (fun s => { s with sp := 0xFB, pc := 0x8000 })
      [(0x1fc, 0x02), (0x1fd, 0x02)] (some 6) = true := by decide

/-- V88 (R201): JSR at S=0x00 (stack wraps). -/
theorem test_V88_jsr :
    gives (program ({ start with sp := 0x00 }) 0x0200 [0x20, 0x00, 0x80] []) (fun s => { s with sp := 0xFE, pc := 0x8000 })
      [(0x100, 0x02), (0x1ff, 0x02)] (some 6) = true := by decide

/-- V89 (R202): RTS. -/
theorem test_V89_rts :
    gives (program ({ start with sp := 0xFB }) 0x0200 [0x60] [(0x1fc, 0x02), (0x1fd, 0xC0)]) (fun s => { s with sp := 0xFD, pc := 0xC003 })
      [] (some 6) = true := by decide

/-- V90 (R202): RTS of link 0xFFFF. -/
theorem test_V90_rts :
    gives (program ({ start with sp := 0xFB }) 0x0200 [0x60] [(0x1fc, 0xFF), (0x1fd, 0xFF)]) (fun s => { s with sp := 0xFD, pc := 0x0000 })
      [] (some 6) = true := by decide

/-- V91 (R203): RTI. -/
theorem test_V91_rti :
    gives (program ({ start with sp := 0xFA }) 0x0200 [0x40] [(0x1fb, 0x24), (0x1fc, 0x34), (0x1fd, 0x12)]) (fun s => { s with sp := 0xFD, pc := 0x1234, p := { s.p with i := true } })
      [] (some 6) = true := by decide

/-- V92 (R203): RTI pulling 0xC3 at S=0xFE (wraps). -/
theorem test_V92_rti :
    gives (program ({ start with sp := 0xFE }) 0x0200 [0x40] [(0x100, 0x00), (0x101, 0x90), (0x1ff, 0xC3)]) (fun s => { s with sp := 0x01, pc := 0x9000, p := { s.p with c := true, z := true, v := true, n := true } })
      [] (some 6) = true := by decide

/-- V93 (R204): BRK at 0x8000. -/
theorem test_V93_brk :
    gives (program start 0x8000 [0x00] [(0xfffe, 0x00), (0xffff, 0x90)]) (fun s => { s with sp := 0xFA, pc := 0x9000, p := { s.p with i := true } })
      [(0x1fb, 0x30), (0x1fc, 0x02), (0x1fd, 0x80)] (some 7) = true := by decide

/-- V94 (R204): BRK with I=1, D=1, C=1. -/
theorem test_V94_brk :
    gives (program ({ start with p := { noFlags with i := true, d := true, c := true } }) 0x8000 [0x00] [(0xfffe, 0x00), (0xffff, 0x90)]) (fun s => { s with sp := 0xFA, pc := 0x9000 })
      [(0x1fb, 0x3D), (0x1fc, 0x02), (0x1fd, 0x80)] (some 7) = true := by decide

/-- V95 (R206): BCC +2, C=0 (taken). -/
theorem test_V95_bcc :
    gives (program start 0x0300 [0x90, 0x02] []) (fun s => { s with pc := 0x0304 })
      [] (some 3) = true := by decide

/-- V96 (R206): BCC +2, C=1 (not taken). -/
theorem test_V96_bcc :
    gives (program ({ start with p := { noFlags with c := true } }) 0x0300 [0x90, 0x02] []) (fun s => { s with pc := 0x0302 })
      [] (some 2) = true := by decide

/-- V97 (R207): BCS +2, C=1. -/
theorem test_V97_bcs :
    gives (program ({ start with p := { noFlags with c := true } }) 0x0300 [0xB0, 0x02] []) (fun s => { s with pc := 0x0304 })
      [] (some 3) = true := by decide

/-- V98 (R208): BEQ -2, Z=1 (to itself). -/
theorem test_V98_beq :
    gives (program ({ start with p := { noFlags with z := true } }) 0x0300 [0xF0, 0xFE] []) (fun s => { s with pc := 0x0300 })
      [] (some 3) = true := by decide

/-- V99 (R209): BNE +5 at 0x02FD (crosses). -/
theorem test_V99_bne :
    gives (program start 0x02FD [0xD0, 0x05] []) (fun s => { s with pc := 0x0304 })
      [] (some 4) = true := by decide

/-- V100 (R209): BNE -3 at 0x0300 (crosses back). -/
theorem test_V100_bne :
    gives (program start 0x0300 [0xD0, 0xFD] []) (fun s => { s with pc := 0x02FF })
      [] (some 4) = true := by decide

/-- V101 (R210): BMI -128 at 0x0280. -/
theorem test_V101_bmi :
    gives (program ({ start with p := { noFlags with n := true } }) 0x0280 [0x30, 0x80] []) (fun s => { s with pc := 0x0202 })
      [] (some 3) = true := by decide

/-- V102 (R211): BPL +127 at 0x0300. -/
theorem test_V102_bpl :
    gives (program start 0x0300 [0x10, 0x7F] []) (fun s => { s with pc := 0x0381 })
      [] (some 3) = true := by decide

/-- V103 (R212): BVC +16 at 0xFFF0 (wraps). -/
theorem test_V103_bvc :
    gives (program start 0xFFF0 [0x50, 0x10] []) (fun s => { s with pc := 0x0002 })
      [] (some 4) = true := by decide

/-- V104 (R213): BVS +0, V=1. -/
theorem test_V104_bvs :
    gives (program ({ start with p := { noFlags with v := true } }) 0x0300 [0x70, 0x00] []) (fun s => { s with pc := 0x0302 })
      [] (some 3) = true := by decide

/-- V105 (R213): BVS +0, V=0. -/
theorem test_V105_bvs :
    gives (program start 0x0300 [0x70, 0x00] []) (fun s => { s with pc := 0x0302 })
      [] (some 2) = true := by decide

/-- V106 (R220): CLC. -/
theorem test_V106_clc :
    gives (program ({ start with p := { noFlags with c := true } }) 0x0200 [0x18] []) (fun s => { s with pc := 0x0201, p := { s.p with c := false } })
      [] (some 2) = true := by decide

/-- V107 (R221): SEC. -/
theorem test_V107_sec :
    gives (program start 0x0200 [0x38] []) (fun s => { s with pc := 0x0201, p := { s.p with c := true } })
      [] (some 2) = true := by decide

/-- V108 (R222): CLI. -/
theorem test_V108_cli :
    gives (program ({ start with p := { noFlags with i := true } }) 0x0200 [0x58] []) (fun s => { s with pc := 0x0201, p := { s.p with i := false } })
      [] (some 2) = true := by decide

/-- V109 (R223): SEI. -/
theorem test_V109_sei :
    gives (program start 0x0200 [0x78] []) (fun s => { s with pc := 0x0201, p := { s.p with i := true } })
      [] (some 2) = true := by decide

/-- V110 (R224): CLD. -/
theorem test_V110_cld :
    gives (program ({ start with p := { noFlags with d := true } }) 0x0200 [0xD8] []) (fun s => { s with pc := 0x0201, p := { s.p with d := false } })
      [] (some 2) = true := by decide

/-- V111 (R225): SED. -/
theorem test_V111_sed :
    gives (program start 0x0200 [0xF8] []) (fun s => { s with pc := 0x0201, p := { s.p with d := true } })
      [] (some 2) = true := by decide

/-- V112 (R226): CLV. -/
theorem test_V112_clv :
    gives (program ({ start with p := { noFlags with v := true } }) 0x0200 [0xB8] []) (fun s => { s with pc := 0x0201, p := { s.p with v := false } })
      [] (some 2) = true := by decide

/-- V113 (R227): NOP. -/
theorem test_V113_nop :
    gives (program start 0x0200 [0xEA] []) (fun s => { s with pc := 0x0201 })
      [] (some 2) = true := by decide

/-- V115 (R234): NOP $12F0,X (0x1C, crosses). -/
theorem test_V115_nop1C :
    gives (program ({ start with x := 0x10 }) 0x0200 [0x1C, 0xF0, 0x12] []) (fun s => { s with pc := 0x0203 })
      [] (some 5) = true := by decide

/-- V117 (R235): SLO $10. -/
theorem test_V117_sloZp :
    gives (program start 0x0200 [0x07, 0x10] [(0x010, 0x81)]) (fun s => { s with a := 0x02, pc := 0x0202, p := { s.p with c := true, z := false, n := false } })
      [(0x010, 0x02)] (some 5) = true := by decide

/-- V118 (R236): RLA $10. -/
theorem test_V118_rlaZp :
    gives (program ({ start with a := 0xFF, p := { noFlags with c := true } }) 0x0200 [0x27, 0x10] [(0x010, 0x80)]) (fun s => { s with a := 0x01, pc := 0x0202, p := { s.p with c := true, z := false, n := false } })
      [(0x010, 0x01)] (some 5) = true := by decide

/-- V119 (R237): SRE $10. -/
theorem test_V119_sreZp :
    gives (program ({ start with a := 0x01 }) 0x0200 [0x47, 0x10] [(0x010, 0x03)]) (fun s => { s with a := 0x00, pc := 0x0202, p := { s.p with c := true, z := true, n := false } })
      [(0x010, 0x01)] (some 5) = true := by decide

/-- V120 (R238): RRA $10. -/
theorem test_V120_rraZp :
    gives (program ({ start with a := 0x10 }) 0x0200 [0x67, 0x10] [(0x010, 0x03)]) (fun s => { s with a := 0x12, pc := 0x0202, p := { s.p with c := false, z := false, v := false, n := false } })
      [(0x010, 0x01)] (some 5) = true := by decide

/-- V121 (R239): SAX $10. -/
theorem test_V121_saxZp :
    gives (program ({ start with a := 0xF0, x := 0x3C }) 0x0200 [0x87, 0x10] []) (fun s => { s with pc := 0x0202, p := { s.p with z := false, n := false } })
      [(0x010, 0x30)] (some 3) = true := by decide

/-- V123 (R240): LAX $02FF,Y (crosses). -/
theorem test_V123_laxAbsY :
    gives (program ({ start with y := 0x01 }) 0x0200 [0xBF, 0xFF, 0x02] [(0x300, 0x00)]) (fun s => { s with pc := 0x0203, p := { s.p with z := true, n := false } })
      [] (some 5) = true := by decide

/-- V125 (R241): DCP $10 of 0x00. -/
theorem test_V125_dcpZp :
    gives (program ({ start with a := 0x40 }) 0x0200 [0xC7, 0x10] [(0x010, 0x00)]) (fun s => { s with pc := 0x0202, p := { s.p with c := false, z := false, n := false } })
      [(0x010, 0xFF)] (some 5) = true := by decide

/-- V126 (R242): ISC $10. -/
theorem test_V126_iscZp :
    gives (program ({ start with a := 0x20, p := { noFlags with c := true } }) 0x0200 [0xE7, 0x10] [(0x010, 0x0F)]) (fun s => { s with a := 0x10, pc := 0x0202, p := { s.p with c := true, z := false, v := false, n := false } })
      [(0x010, 0x10)] (some 5) = true := by decide

/-- V129 (R243): ANC #$7F (0x2B). -/
theorem test_V129_anc2B :
    gives (program ({ start with a := 0xFF, p := { noFlags with c := true } }) 0x0200 [0x2B, 0x7F] []) (fun s => { s with a := 0x7F, pc := 0x0202, p := { s.p with c := false, z := false, n := false } })
      [] (some 2) = true := by decide

/-- V130 (R244): ALR #$03. -/
theorem test_V130_alr :
    gives (program ({ start with a := 0xFF }) 0x0200 [0x4B, 0x03] []) (fun s => { s with a := 0x01, pc := 0x0202, p := { s.p with c := true, z := false, n := false } })
      [] (some 2) = true := by decide

/-- V132 (R245): ARR #$FF, C=0, A=0x40. -/
theorem test_V132_arr :
    gives (program ({ start with a := 0x40 }) 0x0200 [0x6B, 0xFF] []) (fun s => { s with a := 0x20, pc := 0x0202, p := { s.p with c := false, z := false, v := true, n := false } })
      [] (some 2) = true := by decide

/-- V135 (R246): AXS #$20 (wraps). -/
theorem test_V135_axs :
    gives (program ({ start with a := 0xFF, x := 0x10, p := { noFlags with v := true } }) 0x0200 [0xCB, 0x20] []) (fun s => { s with x := 0xF0, pc := 0x0202, p := { s.p with c := false, z := false, v := true, n := true } })
      [] (some 2) = true := by decide

/-- V136 (R247): SBC #$03 (0xEB). -/
theorem test_V136_sbcEB :
    gives (program ({ start with a := 0x05, p := { noFlags with c := true } }) 0x0200 [0xEB, 0x03] []) (fun s => { s with a := 0x02, pc := 0x0202, p := { s.p with c := true, z := false, v := false, n := false } })
      [] (some 2) = true := by decide

/-- V137 (R248): LAS $0300,Y. -/
theorem test_V137_las :
    gives (program ({ start with sp := 0xF0 }) 0x0200 [0xBB, 0x00, 0x03] [(0x300, 0x3F)]) (fun s => { s with a := 0x30, x := 0x30, sp := 0x30, pc := 0x0203, p := { s.p with z := false, n := false } })
      [] (some 4) = true := by decide

/-- V138 (R249): ANE #$FF (0x8B). -/
theorem test_V138_ane : refuses (program start 0x0200 [0x8B, 0xFF] []) 0x8B = true := by decide

/-- V139 (R251): SHA $0300,Y (0x9F). -/
theorem test_V139_shaAbsY : refuses (program start 0x0200 [0x9F, 0x00, 0x03] []) 0x9F = true := by decide

/-- V140 (R254): JAM (0x02). -/
theorem test_V140_jam02 :
    gives (program start 0x0200 [0x02] []) (fun s => { s with halted := true, pc := 0x0201 })
      [] none = true := by decide

/-- V141 (R232): SLO $10 under Nop. -/
theorem test_V141_sloZp :
    gives (program ({ start with cfg := policyCfg .nop }) 0x0200 [0x07, 0x10] [(0x010, 0x81)]) (fun s => { s with pc := 0x0202 })
      [] (some 5) = true := by decide

/-- V142 (R232): LAX $02FF,Y under Nop (no penalty, no read). -/
theorem test_V142_laxAbsY :
    gives (program ({ start with y := 0x01, cfg := policyCfg .nop }) 0x0200 [0xBF, 0xFF, 0x02] []) (fun s => { s with pc := 0x0203 })
      [] (some 4) = true := by decide

/-- V143 (R232): JAM under Nop. -/
theorem test_V143_jam02 : refuses (program ({ start with cfg := policyCfg .nop }) 0x0200 [0x02] []) 0x02 = true := by decide

/-- V144 (R231): NOP #$00 (0x80) under Refuse. -/
theorem test_V144_nop80 : refuses (program ({ start with cfg := policyCfg .refuse }) 0x0200 [0x80, 0x00] []) 0x80 = true := by decide

/-- V145 (R231): LDA #$01 under Refuse (official: unaffected). -/
theorem test_V145_ldaImm :
    gives (program ({ start with cfg := policyCfg .refuse }) 0x0200 [0xA9, 0x01] []) (fun s => { s with a := 0x01, pc := 0x0202 })
      [] (some 2) = true := by decide

/-- LXA, SHX, SHY, TAS: refused under `Semantic` (R250, R252, R253, R255), no-ops under `Nop` (R232). -/
theorem test_unstable_refused : (refuses (program start 0x0200 [0xAB, 0xFF] []) 0xAB &&
    refuses (program start 0x0200 [0x9E, 0x00, 0x03] []) 0x9E && refuses (program start 0x0200 [0x9C, 0x00, 0x03] []) 0x9C &&
    refuses (program start 0x0200 [0x9B, 0x00, 0x03] []) 0x9B) = true := by decide
theorem test_unstable_nop :
    gives (program { start with cfg := policyCfg .nop } 0x0200 [0x9B, 0x00, 0x03] []) (fun s => { s with pc := 0x0203 }) []
      (some 5) = true := by decide

/-! ## Interrupts (95_test_vectors.md section 3.2) -/

/-- The section's start: NOPs, the vectors, PC and C. -/
def irqStart : State :=
  program { start with p := { noFlags with c := true } } 0x8123 [0xEA, 0xEA]
    [(0xA000, 0xEA), (0xB000, 0xEA), (0xFFFA, 0x00), (0xFFFB, 0xB0), (0xFFFE, 0x00), (0xFFFF, 0xA0)]

theorem test_IV1_irq :
    gives { irqStart with irqLine := true } (fun s => { s with p := { s.p with i := true }, sp := 0xFA, pc := 0xA000 })
      [(0x1FD, 0x81), (0x1FC, 0x23), (0x1FB, 0x21)] (some 7) = true := by decide
theorem test_IV2_masked :
    gives { irqStart with irqLine := true, p := { irqStart.p with i := true } } (fun s => { s with pc := 0x8124 }) []
      (some 2) = true := by decide
theorem test_IV3_nmi_first :
    gives { irqStart with nmiPending := true, irqLine := true }
      (fun s => { s with p := { s.p with i := true }, sp := 0xFA, pc := 0xB000, nmiPending := false }) [(0x1FB, 0x21)]
      (some 7) = true := by decide
theorem test_IV4_nmi_clears_i :
    gives { irqStart with nmiPending := true, irqLine := true, cfg := { irqStart.cfg with nmiSetsI := false } }
      (fun s => { s with sp := 0xFA, pc := 0xB000, nmiPending := false }) [(0x1FB, 0x21)] (some 7) = true := by decide
theorem test_IV9_halted :
    (match step { irqStart with halted := true, nmiPending := true, irqLine := true } with
      | .next t => decide (t = { irqStart with halted := true, nmiPending := true, irqLine := true })
      | .fault _ => false
      | .refused _ => false) = true := by decide
/-- The host requests an NMI at the boundary: the step dispatches it (E8). -/
theorem test_request_nmi :
    gives { irqStart with inputs := [⟨true, false, none⟩] }
      (fun s => { s with p := { s.p with i := true }, sp := 0xFA, pc := 0xB000, inputs := [] }) [] (some 7) = true := by
  decide

/-! ## Reset (section 3.3) -/

/-- A machine in mid-run, with the reset vector 0x8000 in its cartridge. -/
def resetStart (k : HostCall) : State :=
  { start.setCells [(0xFFFC, 0x00), (0xFFFD, 0x80)] with
    a := 0x12, sp := 0xF0, p := { noFlags with d := true }, halted := true, nmiPending := true, cycles := 1000
    inputs := [⟨false, false, some k⟩] }

theorem test_RV3_soft_reset :
    gives (resetStart .soft)
      (fun s => { s with
        sp := 0xED, p := { s.p with i := true }, halted := false, nmiPending := false, pc := 0x8000, inputs := [] })
      [(0x1F0, 0x00)] (some 7) = true := by decide
/-- RV2: A comes from the draw, RAM too (20_memory.md R54). -/
theorem test_RV2_power_on :
    (match step (resetStart (.powerOn { Draw.reference with a := 0x5A, ram := [0x11] })) with
      | .next t => decide (t.a = 0x5A ∧ t.x = 0 ∧ t.sp = 0xFD ∧ t.pc = 0x8000 ∧ t.p = { noFlags with i := true } ∧
          t.cycles = 7 ∧ t.nmiPending = false ∧ t.halted = false ∧ t.dataBus = 0x80 ∧ t.mem.ram 0 = 0x11)
      | .fault _ => false
      | .refused _ => false) = true := by decide

/-! ## Snapshots (60_exceptions.md R290, 95_test_vectors.md E4) -/

def savedState : Snapshot :=
  { a := 0x11, x := 0x22, y := 0x33, sp := 0xE0, pc := 0xC123, p := { noFlags with v := true }, cycles := 99
    nmiPending := true, halted := false, dataBus := 0x77, ram := [0x01, 0x02], devices := 5, romSwitched := true }

/-- Every field of R21 comes from the snapshot, RAM too; program ROM and the record stay; the step counts no cycle. -/
theorem test_snapshot_load :
    (match step (resetStart (.load savedState)) with
      | .next t => decide (t.a = 0x11 ∧ t.x = 0x22 ∧ t.y = 0x33 ∧ t.sp = 0xE0 ∧ t.pc = 0xC123 ∧
          t.p = { noFlags with v := true } ∧ t.cycles = 99 ∧ t.nmiPending = true ∧ t.halted = false ∧ t.dataBus = 0x77 ∧
          t.devices = 5 ∧ t.romSwitched = true) &&
        decide (t.mem = [(0, 0x01), (1, 0x02), (0xFFFD, 0x80), (0xFFFC, 0x00)].foldl (fun m c => Memory.write m c.1 c.2) []) &&
        decide (t.trace = [] ∧ t.lastCost = none ∧ t.inputs = [])
      | .fault _ => false
      | .refused _ => false) = true := by decide
theorem test_snapshot_save_ram : (start.setCells [(1, 0x22)]).mem.ramBytes 3 = [0x00, 0x22, 0x00] := by decide

/-! ## Bus order (sections 3.4 and 3.5) -/

def dummyCfg : Config := { Config.reference with dummyAccesses := true }

theorem test_T1_jsr : accesses (program start 0x0200 [0x20, 0x00, 0x80] []) =
    [⟨.read, 0x0200, 0x20⟩, ⟨.read, 0x0201, 0x00⟩, ⟨.write, 0x01FD, 0x02⟩, ⟨.write, 0x01FC, 0x02⟩, ⟨.read, 0x0202, 0x80⟩] := by
  decide
/-- JSR's high address byte is fetched after the pushes: here they overwrite it (R201). -/
theorem test_jsr_rereads :
    gives (program { start with sp := 0xFD } 0x01FB [0x20, 0x34, 0x12] []) (fun s => { s with sp := 0xFB, pc := 0x0134 })
      [(0x1FD, 0x01), (0x1FC, 0xFD)] (some 6) = true := by decide
theorem test_DT2_inc : accesses (program { start with cfg := dummyCfg } 0x0200 [0xE6, 0x10] [(0x10, 0x7F)]) =
    [⟨.read, 0x0200, 0xE6⟩, ⟨.read, 0x0201, 0x10⟩, ⟨.read, 0x0010, 0x7F⟩, ⟨.write, 0x0010, 0x7F⟩, ⟨.write, 0x0010, 0x80⟩] := by
  decide
theorem test_DT3_sta : accesses (program { start with cfg := dummyCfg, a := 0x77, x := 0x01 } 0x0200 [0x9D, 0xFF, 0x02] []) =
    [⟨.read, 0x0200, 0x9D⟩, ⟨.read, 0x0201, 0xFF⟩, ⟨.read, 0x0202, 0x02⟩, ⟨.read, 0x0200, 0x9D⟩, ⟨.write, 0x0300, 0x77⟩] := by
  decide
theorem test_DT8_bne : (accesses (program { start with cfg := dummyCfg } 0x02FD [0xD0, 0x05] [])).map BusEvent.key =
    [(.read, 0x02FD), (.read, 0x02FE), (.read, 0x02FF), (.read, 0x0204)] := by decide
theorem test_E9_bit_2002 : (accesses (program start 0x0200 [0x2C, 0x02, 0x20] [])).map BusEvent.key =
    [(.read, 0x0200), (.read, 0x0201), (.read, 0x0202), (.read, 0x2002)] := by decide
theorem test_E9_lda_dummy :
    (accesses (program { start with cfg := dummyCfg, x := 3 } 0x0200 [0xBD, 0xFF, 0x20] [])).map BusEvent.key =
      [(.read, 0x0200), (.read, 0x0201), (.read, 0x0202), (.read, 0x2002), (.read, 0x2102)] := by decide
theorem test_E10_open_bus :
    gives (program start 0x0200 [0xAD, 0x18, 0x40] []) (fun s => { s with a := 0x40, pc := 0x0203 }) [] (some 4) = true := by
  decide

/-! ## Placing an instruction -/

theorem test_withFetchWord_lda :
    gives (State.reset.withFetchWord 16 0x80A9) (fun s => { s with a := 0x80, pc := 0x0202, p := { s.p with n := true } }) []
      (some 2) = true := by decide
/-- The operand bytes the table gives no bits are zeros. -/
theorem test_withFetchWord_short :
    gives (State.reset.withFetchWord 8 0x4C) (fun s => { s with pc := 0x0000 }) [] (some 3) = true := by decide

/-! ## Witnesses: the hypotheses of every statement can be met -/

/-- The next state of an instruction, and of a step. -/
def afterExec (i : Instr) (s : State) : State :=
  match exec i s with
  | .next t => t
  | .fault _ => s
  | .refused _ => s

def afterStep (s : State) : State :=
  match step s with
  | .next t => t
  | .fault _ => s
  | .refused _ => s

/-- Whether an instruction goes on and changes what `f` reads. -/
def changes {α : Type} [DecidableEq α] (i : Instr) (s : State) (f : State → α) : Bool :=
  match exec i s with
  | .next t => !decide (f t = f s)
  | .fault _ => false
  | .refused _ => false

/-- Code in RAM, a pending interrupt, a host call, in turn. -/
def ldaStart : State := program start 0x0200 [0xA9, 0x80] []
def nmiStart : State := { start with nmiPending := true }
def maskedStart : State := { ldaStart with irqLine := true, p := { noFlags with i := true } }
def nopStart : State := { start with cfg := policyCfg .nop }

theorem witness_DecodeEncodeRoundTrip : (Instr.ldaAbs 0xFFFF).wellFormed = true ∧ Instr.brk.wellFormed = true := by decide
theorem witness_EncodeDecodeRoundTrip : decode [0xAD, 0x34, 0x12, 0xEA] = .ok (.ldaAbs 0x1234, [0xEA]) := rfl
theorem witness_DecodeFailsOnlyWhenShort : decode [] = .error .empty ∧ decode [0xAD, 0x34] = .error (.truncated 0xAD) ∧
    decode [0xA9] = .error (.truncated 0xA9) := ⟨rfl, rfl, rfl⟩
theorem witness_StepRunsDecodedInstruction : (ldaStart.Ready ∧
      decode (State.fetchedBytes (instrLength ldaStart.fetched) ldaStart) = .ok (.ldaImm 0x80, [])) ∧
    maskedStart.Ready := ⟨⟨⟨rfl, rfl, rfl, .inl rfl⟩, rfl⟩, ⟨rfl, rfl, rfl, .inr rfl⟩⟩
/-- Across the wrap of PC, half in ROM and half in RAM; and JSR in RAM. -/
theorem witness_FetchReadsHeldBytes :
    (∃ s : State, s.Ready ∧ s.pc = 0xFFFF ∧
      ∀ k b, (encode (.ldaAbs 0x1234))[k]? = some b → s.heldByte (s.pc + BitVec.ofNat 16 k) = some b) ∧
    ∃ s : State, s.Ready ∧
      ∀ k b, (encode (.jsr 0x8000))[k]? = some b → s.heldByte (s.pc + BitVec.ofNat 16 k) = some b := by
  refine ⟨⟨program start 0xFFFF [0xAD] [(0, 0x34), (1, 0x12)], ⟨rfl, rfl, rfl, .inl rfl⟩, rfl, fun k b h => ?_⟩,
    ⟨program start 0x0200 [0x20, 0x00, 0x80] [], ⟨rfl, rfl, rfl, .inl rfl⟩, fun k b h => ?_⟩⟩
  all_goals
    match k, h with
    | 0, h => cases h; decide
    | 1, h => cases h; decide
    | 2, h => cases h; decide
    | _ + 3, h => cases h
theorem witness_InterruptDispatch : (nmiStart.inputs = [] ∧ nmiStart.halted = false ∧ nmiStart.nmiPending = true) ∧
    ∃ s : State, s.inputs = [] ∧ s.halted = false ∧ s.nmiPending = false ∧ s.irqLine = true ∧ s.p.i = false :=
  ⟨⟨rfl, rfl, rfl⟩, { start with irqLine := true }, rfl, rfl, rfl, rfl, rfl⟩
theorem witness_HostBoundary : start.inputs = [] ∧
    ∃ (s : State) (b : Boundary) (rest : List Boundary), s.inputs = b :: rest ∧ b.call = none :=
  ⟨rfl, { start with inputs := [⟨true, true, none⟩] }, _, _, rfl, rfl⟩
theorem witness_HaltedCpuStays : (∃ s : State, s.halted = true ∧ s.inputs = []) ∧
    ∃ (s : State) (b : Boundary) (rest : List Boundary), s.halted = true ∧ s.inputs = b :: rest ∧ b.call = none :=
  ⟨⟨{ start with halted := true }, rfl, rfl⟩,
    { start with halted := true, inputs := [⟨true, true, none⟩] }, _, _, rfl, rfl, rfl⟩
theorem witness_SoftReset : (∃ b rest, (resetStart .soft).inputs = b :: rest ∧ b.call = some .soft) ∧
    ((resetStart .soft).halted = true ∧ ∃ t, step (resetStart .soft) = .next t ∧ t.halted = false) ∧
    (∃ t, step (resetStart (.powerOn Draw.reference)) = .next t ∧ t.halted = false) ∧
    ∃ t, step (resetStart (.load savedState)) = .next t ∧ t.halted = false :=
  ⟨⟨_, _, rfl, rfl⟩, ⟨rfl, _, rfl, rfl⟩, ⟨_, rfl, rfl⟩, _, rfl, rfl⟩
theorem witness_PowerOn :
    ∃ b rest, (resetStart (.powerOn Draw.reference)).inputs = b :: rest ∧ b.call = some (.powerOn Draw.reference) :=
  ⟨_, _, rfl, rfl⟩
/-- The first and the last byte of a cartridge's program ROM. -/
theorem witness_LaunchState : 3 ≤ Config.reference.cycleWidth ∧ (List.replicate 0x8000 (0xEA : Byte))[0]? = some 0xEA ∧
    (List.replicate 0x8000 (0xEA : Byte))[0x7FFF]? = some 0xEA :=
  ⟨by decide, by rw [List.getElem?_replicate]; rfl, by rw [List.getElem?_replicate]; rfl⟩
theorem ldaStart_legal : ldaStart.Legal := ⟨by decide, by decide, rfl⟩
/-- A step without a snapshot load from a latched state; and a load. -/
theorem witness_StepKeepsLegal : (ldaStart.Legal ∧ (∃ t, step ldaStart = .next t) ∧ ldaStart.latched ∧
      ∀ b ∈ ldaStart.inputs.head?, ∀ k, b.call ≠ some (.load k)) ∧
    (resetStart (.load savedState)).Legal ∧ ∃ t, step (resetStart (.load savedState)) = .next t :=
  ⟨⟨ldaStart_legal, ⟨_, rfl⟩, fun _ h => (by cases h), fun _ h => (by cases h)⟩, ⟨by decide, by decide, rfl⟩, _, rfl⟩
theorem witness_TraceOnlyGrows : ∃ t, step ldaStart = .next t := ⟨_, rfl⟩
theorem witness_RomNeverChanges : (∃ t, step (program start 0x0200 [0x8D, 0x00, 0x80] [(0x8000, 0x11)]) = .next t) ∧
    0x8000 ≤ 0x8000 ∧ 0x8000 ≤ 0xFFFF := ⟨⟨_, rfl⟩, by decide, by decide⟩
/-- Each clause of the refusals, and an instruction that is not refused. -/
theorem witness_RefusedExactly : exec .nop1A { start with cfg := policyCfg .refuse } = .refused (.unofficial 0x1A) ∧
    exec .jam02 nopStart = .refused (.unofficial 0x02) ∧ exec (.ane 0) start = .refused (.unofficial 0x8B) ∧
    ∃ t, exec .nop1A start = .next t := ⟨rfl, rfl, rfl, _, rfl⟩
theorem witness_RegisterWriters : (changes (.ldaImm 1) start State.a && changes .aslAcc { start with a := 1 } State.a &&
    changes (.ldxImm 1) start State.x && changes (.ldyImm 1) start State.y && changes .txs start State.sp) = true ∧
    ∃ t, exec (.laxZp 0) nopStart = .next t ∧ nopStart.cfg.policy ≠ .semantic := ⟨by decide, _, rfl, by decide⟩
theorem witness_FlagWriters : (changes .sec start (fun t => t.p.c) && changes (.ldaImm 0) start (fun t => t.p.z) &&
    changes (.ldaImm 0x80) start (fun t => t.p.n) && changes (.bitZp 0) (start.setCells [(0, 0x40)]) (fun t => t.p.v) &&
    changes .sei start (fun t => t.p.i) && changes .sed start (fun t => t.p.d)) = true ∧
    ∃ t, exec (.sloZp 0) nopStart = .next t := ⟨by decide, _, rfl⟩
theorem witness_OtherStateWriters : (changes (.jmpAbs 0xC000) start State.pc && changes .rts start State.pc &&
    changes (.bne 2) start State.pc && changes (.staZp 0x10) { start with a := 1 } (fun t => t.mem.read 0x10) &&
    changes .pha { start with a := 1 } (fun t => t.mem.read 0x1FD) && changes .jam02 start State.halted) = true := by decide
/-- A crossed page and a taken branch, each with its extra cycles; JAM; a step that wrote 0x4014. -/
theorem witness_CostFollowsTable : (afterExec (.ldaAbsX 0x02FF) { start with x := 1 }).lastCost = some 5 ∧
    (afterExec (.bne 0x7F) { start with pc := 0x02FF }).lastCost = some 4 ∧ (afterExec .jam02 start).lastCost = none ∧
    ∃ t, exec (.staAbs 0x4014) start = .next t := ⟨by decide, by decide, by decide, _, rfl⟩
/-- Both ends of the mirrored window. -/
theorem witness_RamMirrors : (0x0000 : Addr).toNat ≤ 0x1FFF ∧ (0x1FFF : Addr).toNat ≤ 0x1FFF ∧
    ((start.busWrite 0x1FFF 0xAB).busByte 0x07FF, (start.busWrite 0x0800 0xCD).busByte 0x0000) = (0xAB, 0xCD) := by decide
/-- The ends of the open-bus window, and of the cartridge's. -/
theorem witness_DataBusLatch : (0x4018 ≤ (0x4018 : Addr).toNat ∧ (0x401F : Addr).toNat ≤ 0x401F) ∧
    (0x4020 ≤ (0x4020 : Addr).toNat ∧ start.heldByte 0x4020 = none) ∧ start.heldByte 0xFFFF = none := by decide
theorem witness_StatusBytePushed : (nmiStart.inputs = [] ∧ nmiStart.halted = false ∧ nmiStart.nmiPending = true) ∧
    ∃ s : State, s.inputs = [] ∧ s.halted = false ∧ s.irqLine = true ∧ s.p.i = false :=
  ⟨⟨rfl, rfl, rfl⟩, { start with irqLine := true }, rfl, rfl, rfl, rfl⟩
theorem witness_StatusBytePulled : (0x00 : Byte) ||| 0x30 = 0x30 ||| 0x30 := by decide
theorem witness_PullGivesWhatWasPushed :
    ((∃ t, exec .pha start = .next t) ∧ ∃ v, exec .pla (afterExec .pha start) = .next v) ∧
    ((∃ t, exec .php start = .next t) ∧ ∃ v, exec .plp (afterExec .php start) = .next v) ∧
    ((∃ t, exec (.jsr 0x8000) start = .next t) ∧ ∃ v, exec .rts (afterExec (.jsr 0x8000) start) = .next v) :=
  ⟨⟨⟨_, rfl⟩, _, rfl⟩, ⟨⟨_, rfl⟩, _, rfl⟩, ⟨_, rfl⟩, _, rfl⟩
theorem witness_RtiUndoesEntry : ((∃ t, exec .brk start = .next t) ∧ ∃ v, exec .rti (afterExec .brk start) = .next v) ∧
    (∃ t, step nmiStart = .next t) ∧ ∃ v, exec .rti (afterStep nmiStart) = .next v :=
  ⟨⟨⟨_, rfl⟩, _, rfl⟩, ⟨_, rfl⟩, _, rfl⟩
/-- A crossing `LDA $02F0,X`, which with dummy accesses reads 0x0200 too. -/
theorem witness_DummyAccessesIrrelevant :
    ∃ s t t' : State, s.inputs = [] ∧ s.dmaWritten = false ∧ s.cfg.dummyAccesses = false ∧ step s = .next t ∧
      step { s with cfg := { s.cfg with dummyAccesses := true } } = .next t' ∧
      (∀ e ∈ newAccesses s t', (s.heldByte e.addr).isSome = true) ∧ (newAccesses s t').length = 5 := by
  refine ⟨program { start with x := 0x10 } 0x0200 [0xBD, 0xF0, 0x02] [],
    afterStep (program { start with x := 0x10 } 0x0200 [0xBD, 0xF0, 0x02] []),
    afterStep { program { start with x := 0x10 } 0x0200 [0xBD, 0xF0, 0x02] [] with cfg := dummyCfg },
    rfl, rfl, rfl, rfl, rfl, by decide, by decide⟩
/-- The three clauses, at the page's edge: not taken, taken to the page's last byte, taken past it. -/
theorem witness_Branches : ∃ s : State, s.pc = 0x02FE ∧ s.p.c = false ∧ (!s.p.c) = true ∧
    s.pc.toNat / 256 = (s.pc + (1 : Byte).signExtend 16).toNat / 256 ∧
    s.pc.toNat / 256 ≠ (s.pc + (2 : Byte).signExtend 16).toNat / 256 := ⟨{ start with pc := 0x02FE }, by decide⟩
/-- The premise of the statements about unofficial opcodes under `Semantic`. -/
theorem witness_UnofficialNops : start.cfg.policy = .semantic := rfl
theorem witness_UnofficialShifts : State.reset.cfg.policy = .semantic := rfl
theorem witness_UnofficialLoadsStores : State.reset.cfg.policy = .semantic := rfl
theorem witness_UnofficialDcpIsc : State.reset.cfg.policy = .semantic := rfl
theorem witness_UnofficialImmediates : State.reset.cfg.policy = .semantic := rfl
theorem witness_JamHalts : State.reset.cfg.policy = .semantic := rfl
theorem witness_NopPolicy : nopStart.cfg.policy = .nop ∧ (Instr.sloZp 0).row.cls = .stable ∧
    (Instr.ane 0).row.cls = .unstable ∧ Instr.jam02.row.cls = .jam := ⟨rfl, rfl, rfl, rfl⟩
/-- A store, a read-modify-write with its dummy write, an indexed store and an unofficial store, each to 0x4014; and
stores to the addresses beside it. -/
theorem witness_DmaStallIsCharged :
    startsDma (newAccesses start (afterExec (.staAbs 0x4014) start)) = true ∧
    startsDma (newAccesses { start with cfg := dummyCfg } (afterExec (.incAbs 0x4014) { start with cfg := dummyCfg })) =
      true ∧
    startsDma (newAccesses { start with x := 0x14 } (afterExec (.staAbsX 0x4000) { start with x := 0x14 })) = true ∧
    startsDma (newAccesses start (afterExec (.saxAbs 0x4014) start)) = true ∧
    startsDma (newAccesses start (afterExec (.staAbs 0x4013) start)) = false ∧
    startsDma (newAccesses start (afterExec (.staAbs 0x4015) start)) = false ∧
    ∃ t, exec (.saxAbs 0x4014) start = .next t := ⟨by decide, by decide, by decide, by decide, by decide, by decide, _, rfl⟩
/-- A machine with the same cartridge loads what `ldaStart` saves. -/
theorem witness_SnapshotRestores :
    ∃ (s u : State) (b : Boundary) (rest : List Boundary) (k : Snapshot), u.inputs = b :: rest ∧ b.call = some (.load k) ∧
      k = s.save ∧ s.Legal ∧ u.Legal ∧ SameConsole s u ∧ s.irqLine = b.irq ∧ s.inputs = rest ∧ u.a ≠ s.a :=
  ⟨ldaStart, { ldaStart with a := 7, inputs := [⟨false, false, some (.load ldaStart.save)⟩] }, _, _, _, rfl, rfl, rfl,
    ldaStart_legal, ldaStart_legal, ⟨rfl, fun _ _ => rfl⟩, rfl, rfl, by decide⟩
/-- The ends of the two device windows, and the addresses the devices see there; an instruction, and JAM. -/
theorem witness_DeviceAccesses :
    [((0x2000 : Addr), (0x2000 : Addr)), (0x3FFF, 0x2007), (0x4000, 0x4000), (0x4017, 0x4017)].all (fun e =>
      decide (0x2000 ≤ e.1.toNat ∧ e.1.toNat ≤ 0x4017 ∧
        e.2.toNat = (if e.1.toNat < 0x4000 then 0x2000 + e.1.toNat % 8 else e.1.toNat))) = true ∧
    (∃ t, exec (.ldaAbs 0x2002) start = .next t) ∧ ∃ t, exec .jam02 start = .next t := ⟨by decide, ⟨_, rfl⟩, _, rfl⟩
/-- The bytes the statements call held: RAM to 0x1FFF, program ROM until a bank may have switched, or for mapper 0. -/
theorem witness_heldByte : start.heldByte 0x1FFF = some 0 ∧ start.heldByte 0x2000 = none ∧
    (start.setCells [(0x8000, 0x11)]).heldByte 0x8000 = some 0x11 ∧
    ({ start.setCells [(0x8000, 0x11)] with romSwitched := true } : State).heldByte 0x8000 = none ∧
    ({ start.setCells [(0x8000, 0x11)] with
      romSwitched := true, cfg := { Config.reference with mapperFixed := true } } : State).heldByte 0x8000 = some 0x11 := by
  decide

end Sys2Proof.Machine
end

section
/-! O13: the reset state is a launch with no cartridge. With no program ROM the two reads of the reset vector go to the
devices (20_memory.md R51, R55), and those are the bytes `State.reset` names. -/

namespace Sys2Proof.Machine

open Sys2Proof

/-- From 0x4000 on the devices see the CPU's own address (20_memory.md R52). -/
theorem deviceAddr_of_not_ppu {a : Addr} (h : 0x4000 ≤ a.toNat) : deviceAddr a = a :=
  if_neg fun hp => by omega

/-- A cartridge address that holds no program ROM byte is answered by the devices (20_memory.md R56). -/
theorem busByte_of_no_rom {s : State} {a : Addr} (ha : 0x4020 ≤ a.toNat) (hm : s.mem.read a.toNat = none) :
    s.busByte a = (Config.busAnswer s.devices a).getD s.dataBus := by
  have hroute : route a = .cartridge := by
    unfold route
    rw [if_neg (by omega), if_neg (by omega), if_neg (by omega), if_neg (by omega)]
  have hrom : s.romByte a = none := by
    unfold State.romByte
    rw [hm, ite_self]
  unfold State.busByte State.deviceByte
  rw [hroute, hrom, deviceAddr_of_not_ppu (by omega)]
  rfl

/-- The whole state after the reset sequence read its vector: `lo` first, then `hi` (70_reset_and_hazards.md R300). -/
theorem startFromVector_eq {s : State} {lo hi : Byte} (hlo : s.busByte 0xFFFC = lo)
    (hhi : (s.busRead 0xFFFC).busByte 0xFFFD = hi) :
    s.startFromVector =
      { s with
        pc := word hi lo, p := { s.p with i := true }, nmiPending := false, halted := false, dataBus := hi
        devices := Config.busAfterRead (Config.busAfterRead s.devices 0xFFFC) 0xFFFD
        trace := ⟨.read, 0xFFFD, hi⟩ :: ⟨.read, 0xFFFC, lo⟩ :: s.trace } := by
  subst hlo hhi
  rfl

/-- The console `State.reset` speaks of, switched on and about to read its vector. -/
def State.switchedOn : State := (State.unpowered Config.reference []).poweredUp Draw.reference

theorem switchedOn_vectorLow : State.switchedOn.busByte 0xFFFC = State.resetVectorLow :=
  busByte_of_no_rom (by decide) rfl

theorem switchedOn_vectorHigh : (State.switchedOn.busRead 0xFFFC).busByte 0xFFFD = State.resetVectorHigh := by
  have hbus : (State.switchedOn.busRead 0xFFFC).dataBus = State.resetVectorLow :=
    (State.busRead_dataBus _ _).trans switchedOn_vectorLow
  rw [busByte_of_no_rom (by decide) rfl, hbus]
  rfl

/-- Settles O13: the launch is power-on's reset sequence from the console just switched on, and with no cartridge placed
the devices answer both bytes of the vector. -/
theorem resetIsLaunch : Obligations.ResetIsLaunch := by
  unfold Obligations.ResetIsLaunch State.launch State.powerOn
  rw [← State.switchedOn, startFromVector_eq switchedOn_vectorLow switchedOn_vectorHigh]
  rfl

end Sys2Proof.Machine
end

section
/-! O15 and O14: the invariant of a step boundary. Every part of a step keeps memory canonical and the data bus latched
(`Keeps`); what is left is the counter's width and the DMA mark, which the end of a step settles (`Closes`). -/

namespace Sys2Proof.Machine

open Sys2Proof

/-- The host's requests at a boundary touch nothing that legality speaks of. -/
theorem Arrived.keeps {s u : State} (h : Arrived s u) :
    Keeps s u ∧ u.cycles = s.cycles ∧ u.dmaWritten = s.dmaWritten := by
  obtain ⟨_, rfl⟩ | ⟨b, rest, _, rfl⟩ := h
  · exact ⟨Keeps.refl u, rfl, rfl⟩
  · exact ⟨(Keeps.refl s).congr rfl rfl rfl rfl, rfl, rfl⟩

/-- Legality reads the memory, the parameters, the counter and the DMA mark alone. -/
theorem Keeps.legal {s t : State} (h : Keeps s t) (hc : t.cycles = s.cycles) (hd : t.dmaWritten = s.dmaWritten)
    (hs : s.Legal) : t.Legal := by
  obtain ⟨hwf, hcycles, hdma⟩ := hs
  exact ⟨h.wf hwf, by rw [hc, h.cfg]; exact hcycles, hd.trans hdma⟩

theorem afterFetch_legal {s : State} (hs : s.Legal) : s.afterFetch.Legal :=
  (afterFetch_keeps s).legal (fetchN_account _ s).1 (fetchN_account _ s).2 hs

theorem exec_legal {i : Instr} {s t : State} (h : exec i s = .next t) (hs : s.Legal) : t.Legal := by
  rcases (exec_shape h).closes with hclose | ⟨hkeep, hc, hd⟩
  · exact hclose.legal hs
  · exact hkeep.legal hc hd hs

/-- The CPU's own step, whichever of its three cases it is. -/
theorem cpuStep_keeps {s t : State} (h : s.cpuStep = .next t) : Keeps s t ∧ (s.Legal → t.Legal) := by
  obtain ⟨_, hstep⟩ | ⟨_, k, hstep⟩ | ⟨_, i, _, hstep⟩ := cpuStep_cases s <;> rw [hstep] at h
  · cases h
    exact ⟨Keeps.refl s, id⟩
  · cases h
    exact ⟨(dispatch_closes k s).toKeeps, (dispatch_closes k s).legal⟩
  · exact ⟨(afterFetch_keeps s).trans (exec_keeps h), fun hs => exec_legal h (afterFetch_legal hs)⟩

/-- The reset sequence writes nothing (70_reset_and_hazards.md R302), so it marks no DMA. -/
theorem softReset_dmaWritten (s : State) : s.softReset.dmaWritten = s.dmaWritten := by
  simp [State.softReset, State.startFromVector, State.suppressedPush]

theorem softReset_legal {s : State} (hs : s.Legal) : s.softReset.Legal := by
  obtain ⟨hwf, _, hdma⟩ := hs
  exact ⟨(softReset_keeps s).wf hwf, Nat.mod_lt _ (Nat.two_pow_pos _), (softReset_dmaWritten s).trans hdma⟩

/-- Settles O15: the step is the CPU's own, a soft reset, a power-on or a snapshot load (`step_cases`), and each keeps
the invariant; the load alone brings a latch of its own. -/
theorem stepKeepsLegal : Obligations.StepKeepsLegal := by
  intro s t hs ht
  obtain ⟨u, harr, hcase⟩ := step_cases s
  obtain ⟨hk, hc, hd⟩ := harr.keeps
  have hu := hk.legal hc hd hs
  obtain ⟨_, hstep⟩ | ⟨_, hstep⟩ | ⟨d, _, hstep⟩ | ⟨k, ⟨b, hb, hload⟩, hstep⟩ := hcase <;> rw [hstep] at ht
  · obtain ⟨hkeep, hlegal⟩ := cpuStep_keeps ht
    exact ⟨hlegal hu, fun hl _ => (hk.trans hkeep).latches.latched hl⟩
  · cases ht
    exact ⟨softReset_legal hu, fun hl _ => (hk.trans (softReset_keeps u)).latches.latched hl⟩
  · cases ht
    exact ⟨powerOn_legal u d hu.1, fun _ _ => powerOn_latched u d⟩
  · cases ht
    exact ⟨load_legal u k hu.1, fun _ hno => absurd hload (hno b hb k)⟩

/-- Settles O14: the reset state is a launch (O13), and a power-on is legal and latched from any canonical memory. -/
theorem resetLegal : Obligations.ResetLegal := by
  unfold Obligations.ResetLegal
  rw [resetIsLaunch]
  exact ⟨powerOn_legal _ _ rfl, powerOn_latched _ _⟩

end Sys2Proof.Machine
end

section
/-! O26, O27 and O28: the status byte on the stack, and what a pull gives after a push (10_state.md R25, R29, R30). The
stack page is RAM, so what a pull reads is what the last write to its cell left. -/

namespace Sys2Proof.Machine

open Sys2Proof

/-- The newest write to a cell is what RAM holds there. -/
theorem Written.ram_eq {s t : State} {ws : List Host.Cell} {c : Nat} {v : Byte} (h : Written s t ws)
    (hc : ws.lookup c = some v) : t.mem.ram c = v := by
  unfold Memory.ram
  rw [h c, hc]
  rfl

/-- Memories that read alike have the same RAM. -/
theorem ram_congr {m n : Memory} (h : ∀ k, m.read k = n.read k) (c : Nat) : m.ram c = n.ram c := by
  unfold Memory.ram
  rw [h c]

theorem stackCell_beq_pred (sp : Byte) : (stackCell sp == stackCell (sp - 1)) = false := by
  unfold stackCell
  rw [beq_eq_false_iff_ne]
  bv_omega

/-- `PackP` is the status byte of R29. -/
theorem packP_statusByte (b : Bool) (p : Flags) : StatusByte (packP b p) p b := packP_bits b p

/-- `UnpackP` reads the flags of R30. -/
theorem unpackP_eq_flagsOf (v : Byte) : unpackP v = flagsOf v := rfl

/-- The status byte is what an exception entry pushes last. -/
theorem EntryStep.statusByte {s t : State} {ret : Addr} {brk : Bool} {p' : Flags} {nmi' : Bool} {vec : Addr}
    {before : List Access1} (h : EntryStep s t ret brk p' nmi' vec before) :
    StatusByte (t.mem.ram (stackCell (s.sp - 2))) s.p brk := by
  obtain ⟨_, _, hw, _⟩ := h
  rw [hw.ram_eq (List.lookup_cons_self ..)]
  exact packP_statusByte brk s.p

/-- BRK's entry (45_control.md R204). -/
theorem execBrk_entry (s : State) : ∃ t, exec .brk s = .next t ∧
    EntryStep s t (s.pc + 1) true { s.p with i := true } s.nmiPending irqVector (s.dummies [(.read, s.pc)]) :=
  ⟨_, rfl, enterException_spec (s.pc + 1) true true irqVector id s.nmiPending (skipPadding_moves s) (skipPadding_cpu s)
    (by decide) (by decide) (fun _ => rfl) (fun _ h => h)⟩

/-- A step that takes an interrupt is a dispatch (60_exceptions.md R272, R273). -/
theorem step_of_interrupt {s : State} (hi : s.inputs = []) (hh : s.halted = false)
    (h : s.nmiPending = true ∨ (s.irqLine = true ∧ s.p.i = false)) : ∃ k, step s = .next (s.dispatch k) := by
  unfold step
  rw [hi]
  unfold State.cpuStep
  rw [hh]
  cases hn : s.nmiPending with
  | true => exact ⟨.nmi, rfl⟩
  | false =>
    obtain ⟨hl, hp⟩ := h.resolve_left (by simp [hn])
    exact ⟨.irq, by rw [hl, hp]; rfl⟩

/-- Settles O26: the pushed byte is `PackP`, with b = 1 for PHP and BRK and b = 0 for the dispatches. -/
theorem statusBytePushed : Obligations.StatusBytePushed := by
  refine ⟨fun s => ?_, fun s => ?_, fun s hi hh hint => ?_⟩
  · obtain ⟨_, hw, _⟩ := pushOp_spec 3 (packP true s.p) s
    refine ⟨_, rfl, ?_⟩
    rw [hw.ram_eq (List.lookup_cons_self ..)]
    exact packP_statusByte true s.p
  · obtain ⟨t, ht, hentry⟩ := execBrk_entry s
    exact ⟨t, ht, hentry.statusByte⟩
  · obtain ⟨k, hk⟩ := step_of_interrupt hi hh hint
    exact ⟨_, hk, (dispatch_spec k s).statusByte⟩

/-- The byte an instruction pulls, after its dummy reads. -/
theorem beforePull_pulled (s : State) : s.beforePull.pulled = s.mem.ram (stackCell (s.sp + 1)) := by
  rw [pulled_eq, (beforePull_sameButBus s).mem, (beforePull_sameButBus s).sp]

/-- The flags RTI pulls, after its dummy reads. -/
theorem beforeReturn_flags (s : State) :
    s.beforeReturn.returnFromException.p = unpackP (s.mem.ram (stackCell (s.sp + 1))) := by
  show unpackP s.beforeReturn.pulled = _
  rw [pulled_eq, (beforeReturn_sameButBus s).mem, (beforeReturn_sameButBus s).sp]

/-- Bytes alike but for bits 4 and 5 hold the same flags. -/
theorem flagsOf_congr {v w : Byte} (h : v ||| 0x30 = w ||| 0x30) : flagsOf v = flagsOf w := by
  have bit {k : Nat} (hk : (0x30#8).getLsbD k = false) : v.getLsbD k = w.getLsbD k := by
    simpa [BitVec.getLsbD_or, hk] using congrArg (BitVec.getLsbD · k) h
  unfold flagsOf
  rw [bit (k := 7) rfl, bit (k := 6) rfl, bit (k := 3) rfl, bit (k := 2) rfl, bit (k := 1) rfl, bit (k := 0) rfl]

/-- Settles O27: PLP and RTI take their flags from `UnpackP` of the slot above S, which reads six bits. -/
theorem statusBytePulled : Obligations.StatusBytePulled := by
  refine fun s => ⟨⟨_, rfl, ?_⟩, ⟨_, rfl, ?_⟩, fun _ _ => flagsOf_congr⟩
  · show unpackP s.beforePull.pulled = _
    rw [beforePull_pulled, unpackP_eq_flagsOf]
  · show s.beforeReturn.returnFromException.p = _
    rw [beforeReturn_flags, unpackP_eq_flagsOf]

/-- A push leaves its byte in the slot that the next pull reads, and S below it. -/
theorem pushOp_then_pull {cost : Nat} {v : Byte} {s u : State} (hsp : u.sp = (pushOp cost v s).sp)
    (hmem : ∀ k, u.mem.read k = (pushOp cost v s).mem.read k) :
    u.sp + 1 = s.sp ∧ u.mem.ram (stackCell (u.sp + 1)) = v := by
  obtain ⟨hcpu, hw, _⟩ := pushOp_spec cost v s
  have hS : u.sp + 1 = s.sp := by
    rw [hsp, show (pushOp cost v s).sp = s.sp - 1 from congrArg State.sp hcpu]
    exact BitVec.sub_add_cancel _ _
  refine ⟨hS, ?_⟩
  rw [hS, ram_congr hmem]
  exact hw.ram_eq (List.lookup_cons_self ..)

/-- JSR leaves its link in the two slots that RTS reads, and S below them (45_control.md R201, R202). -/
theorem pushLink_then_pull {w : Addr} {s t u : State} (ht : exec (.jsr w) s = .next t) (hsp : u.sp = t.sp)
    (hmem : ∀ k, u.mem.read k = t.mem.read k) : u.sp + 2 = s.sp ∧ u.pulledLink = s.pc := by
  cases ht
  have hd := dummyRead_sameButBus s (stackSlot s.sp)
  have hw := (pushPc_moves (s.dummyRead (stackSlot s.sp))).written
  rw [hd.sp, hd.pc] at hw
  have hS : u.sp = s.sp - 2 := by
    rw [hsp, ← hd.sp]
    exact congrArg State.sp (pushPc_cpu (s.dummyRead (stackSlot s.sp)))
  have h1 : u.sp + 1 = s.sp - 1 := by rw [hS]; bv_omega
  have h2 : u.sp + 2 = s.sp := by rw [hS]; bv_omega
  have hlo := hw.ram_eq (List.lookup_cons_self ..)
  have hhi := hw.ram_eq (c := stackCell s.sp) (v := hiByte s.pc) (by
    rw [List.lookup_cons, stackCell_beq_pred]
    exact List.lookup_cons_self ..)
  refine ⟨h2, ?_⟩
  rw [pulledLink_eq, h1, h2, ram_congr hmem, ram_congr hmem, ← word_hiByte_loByte s.pc]
  exact congrArg₂ word hhi hlo

/-- Settles O28: each pull reads the slots its push wrote, and S comes back by as many as it went down. -/
theorem pullGivesWhatWasPushed : Obligations.PullGivesWhatWasPushed := by
  intro s t u v w hsp hmem
  refine ⟨fun ht hv => ?_, fun ht hv => ?_, fun ht hv => ?_⟩
  · cases ht
    cases hv
    obtain ⟨hS, hbyte⟩ := pushOp_then_pull hsp hmem
    have hb := beforePull_sameButBus u
    have hpulled : u.beforePull.pulled = s.a := (beforePull_pulled u).trans hbyte
    refine ⟨hpulled, ?_, ?_⟩
    · show (State.setNZ u.beforePull u.beforePull.pulled).p = _
      rw [hpulled, setNZ_eq, hb.p]
    · show u.beforePull.sp + 1 = s.sp
      rw [hb.sp, hS]
  · cases ht
    cases hv
    obtain ⟨hS, hbyte⟩ := pushOp_then_pull hsp hmem
    refine ⟨?_, ?_⟩
    · show unpackP u.beforePull.pulled = s.p
      rw [beforePull_pulled, hbyte, unpackP_packP]
    · show u.beforePull.sp + 1 = s.sp
      rw [(beforePull_sameButBus u).sp, hS]
  · obtain ⟨hS, hlink⟩ := pushLink_then_pull ht hsp hmem
    cases hv
    have hb := beforeReturn_sameButBus u
    refine ⟨?_, ?_⟩
    · show u.beforeReturn.pulledLink + 1 = s.pc + 1
      rw [pulledLink_eq, hb.mem, hb.sp, ← pulledLink_eq, hlink]
    · show (u.beforeReturn.pull.pull.dummyRead _).sp = s.sp
      rw [State.dummyRead_sp]
      show u.beforeReturn.sp + 1 + 1 = s.sp
      rw [hb.sp, add_one_twice, hS]

end Sys2Proof.Machine
end

section
/-! O12: a launch is power-on of a console that has never run, with the cartridge in place (10_state.md R41,
20_memory.md R56). -/

namespace Sys2Proof.Machine

open Sys2Proof

/-- What power-on gives, from any state (70_reset_and_hazards.md R300). -/
theorem powerOn_spec (s : State) (d : Draw) :
    JumpedThrough s (s.powerOn d) 0xFFFC ∧
      (s.powerOn d).cpu =
        ({ s.poweredUp d with pc := (s.powerOn d).pc, nmiPending := false, halted := false } : State).cpu := by
  obtain ⟨⟨lo, hi, hpc, htr, hlo, hhi⟩, _, hcpu⟩ :=
    startFromVector_spec (Moves.refl (s.poweredUp d)) (sp := 0xFD) rfl
  rw [poweredUp_heldByte s d _ (by decide)] at hlo hhi
  exact ⟨⟨lo, hi, hpc, htr, hlo, hhi⟩, hcpu⟩

/-- The reset sequence's last read is the vector's high byte, and it stands on the data bus. -/
theorem powerOn_newest (s : State) (d : Draw) :
    ∃ hi, (s.powerOn d).trace.head? = some ⟨.read, 0xFFFD, hi⟩ ∧ (s.powerOn d).dataBus = hi := ⟨_, rfl, rfl⟩

/-- The program ROM of a console just launched is the cartridge's bytes (R56). -/
theorem launch_heldByte (cfg : Config) {rom : List Byte} (d : Draw) {k : Nat} {b : Byte} (hk : k < 0x8000)
    (hb : rom[k]? = some b) : (State.launch cfg rom d).heldByte (BitVec.ofNat 16 (0x8000 + k)) = some b := by
  have ha : (BitVec.ofNat 16 (0x8000 + k)).toNat = romBase + k := by
    rw [BitVec.toNat_ofNat, Nat.mod_eq_of_lt (by omega)]
    rfl
  have hlen : k < rom.length := (List.getElem?_eq_some_iff.mp hb).1
  have hread : (State.launch cfg rom d).mem.read (romBase + k) = some b := by
    show ((Memory.ofBytes addressSpace romBase rom).withRam d.ram).read (romBase + k) = some b
    rw [Memory.read_withRam _ _ _ (Nat.le_add_right ..), Memory.read_ofBytes, Nat.add_sub_cancel_left, if_pos, hb]
    exact ⟨Nat.le_add_right .., by unfold romBase addressSpace; omega, hlen⟩
  unfold State.heldByte
  rw [ha, if_neg (by unfold romBase; omega), if_pos ⟨.inl rfl, by unfold romBase; omega⟩, hread]

/-- Settles O12: the registers and the vector from `powerOn_spec`, the cartridge's bytes from `launch_heldByte`. -/
theorem launchState : Obligations.LaunchState := by
  intro cfg rom d
  obtain ⟨hjump, hcpu⟩ := powerOn_spec (State.unpowered cfg rom) d
  obtain ⟨ha, hx, hy, hsp, _, hp, hnmi, _, hhalted, _, _, hcfg⟩ := (cpu_eq_iff _ _).mp hcpu
  have hcycles : 3 ≤ cfg.cycleWidth → 7 % 2 ^ cfg.cycleWidth = 7 := fun h3 =>
    Nat.mod_eq_of_lt (Nat.lt_of_lt_of_le (by decide) (Nat.pow_le_pow_right (by decide) h3))
  exact ⟨_, rfl, ha, hx, hy, hsp, hp, hcycles, hnmi, hhalted, hcfg, hjump, powerOn_newest _ d,
    fun _ _ hk hb => launch_heldByte cfg d hk hb⟩

end Sys2Proof.Machine
end

section
/-! O6: fetching bytes that RAM or program ROM hold (10_state.md R27). A fetch changes the bus side and PC alone, so the
bytes still to come stay held. -/

namespace Sys2Proof

/-- An instruction's bytes are its opcode byte and what the opcode map says is to be read after it (30_encoding.md R82,
R84, R86). -/
inductive Encoded : Instr → List Byte → Prop
  | f1 {op : Byte} {i : Instr} (h : opcodeForm op = .f1 i) : Encoded i [op]
  | f2 {op : Byte} {mk : Byte → Instr} (h : opcodeForm op = .f2 mk) (b : Byte) : Encoded (mk b) [op, b]
  | f3 {op : Byte} {mk : Addr → Instr} (h : opcodeForm op = .f3 mk) (w : Addr) : Encoded (mk w) (op :: leBytes w)

/-- The encoder and the opcode map agree on all 256 rows: the length of the encoding picks the form. -/
theorem encode_encoded (i : Instr) : Encoded i (encode i) := by
  cases i <;> constructor <;> rfl

theorem Encoded.decode_eq {i : Instr} {bytes : List Byte} (h : Encoded i bytes) : decode bytes = .ok (i, []) := by
  cases h with
  | f1 h => exact decode_f1 h []
  | f2 h b => exact decode_f2 h b []
  | f3 h w => rw [leBytes, decode_f3 h, word_hiByte_loByte]

theorem Form.length_le_three (f : Form) : f.length ≤ 3 := by
  cases f <;> simp [Form.length]

theorem Encoded.length_eq {i : Instr} {bytes : List Byte} (h : Encoded i bytes) :
    ∃ op rest, bytes = op :: rest ∧ (opcodeForm op).length = bytes.length := by
  cases h with
  | f1 h => exact ⟨_, _, rfl, by rw [h]; rfl⟩
  | f2 h b => exact ⟨_, _, rfl, by rw [h]; rfl⟩
  | f3 h w => exact ⟨_, _, rfl, by rw [h]; rfl⟩

/-- The encoding begins with the opcode byte, which gives its length. -/
theorem encode_eq_cons (i : Instr) : ∃ rest, encode i = i.opcode :: rest ∧
    (opcodeForm i.opcode).length = (encode i).length := by
  obtain ⟨op, rest, hcons, hlen⟩ := (encode_encoded i).length_eq
  have hop : i.opcode = op := by rw [Instr.opcode, hcons]; rfl
  exact ⟨rest, by rw [hop, hcons], by rw [hop, hlen]⟩

namespace Machine

/-! ## Fetching held bytes -/

/-- These bytes stand at PC, PC+1 and so on, modulo 2^16. -/
def State.HoldsAtPc (s : State) (bytes : List Byte) : Prop :=
  ∀ k b, bytes[k]? = some b → s.heldByte (s.pc + BitVec.ofNat 16 k) = some b

theorem State.HoldsAtPc.take {s : State} {bytes : List Byte} (h : s.HoldsAtPc bytes) (n : Nat) :
    s.HoldsAtPc (bytes.take n) := by
  intro k b hk
  rw [List.getElem?_take] at hk
  split at hk
  · exact h k b hk
  · cases hk

theorem add_one_add_ofNat (pc : Addr) (k : Nat) :
    pc + 1 + BitVec.ofNat 16 k = pc + BitVec.ofNat 16 (k + 1) := by
  rw [BitVec.add_assoc, Nat.add_comm k 1, BitVec.ofNat_add]
  rfl

theorem State.HoldsAtPc.fetched {s : State} {b : Byte} {bs : List Byte} (h : s.HoldsAtPc (b :: bs)) : s.fetched = b :=
  busByte_of_heldByte (by simpa using h 0 b rfl)

/-- A fetch writes nothing, so what stood past the fetched byte stands at PC then. -/
theorem State.HoldsAtPc.fetch8 {s : State} {b : Byte} {bs : List Byte} (h : s.HoldsAtPc (b :: bs)) :
    s.fetch8.HoldsAtPc bs := by
  intro k c hk
  show s.heldByte (s.pc + 1 + BitVec.ofNat 16 k) = some c
  rw [add_one_add_ofNat]
  exact h (k + 1) c hk

theorem fetchedBytes_of_held {s : State} {bs : List Byte} (h : s.HoldsAtPc bs) :
    State.fetchedBytes bs.length s = bs := by
  induction bs generalizing s with
  | nil => rfl
  | cons b bs ih => exact congrArg₂ List.cons h.fetched (ih h.fetch8)

theorem fetches_cons (pc : Addr) (b : Byte) (bs : List Byte) :
    fetches pc (b :: bs) = fetches (pc + 1) bs ++ [⟨.read, pc, b⟩] := by
  unfold fetches
  rw [List.zipIdx_cons', List.map_cons, List.reverse_cons, List.map_map]
  simp only [Function.comp_def, Prod.map, id, add_one_add_ofNat, BitVec.add_zero]

theorem FetchedInto.refl (s : State) : FetchedInto s s [] :=
  ⟨by simp, rfl, rfl, rfl, rfl, rfl, rfl, rfl⟩

/-- One fetch of a held byte, then the rest. -/
theorem FetchedInto.cons {s u : State} {b : Byte} {bs : List Byte} (hb : s.fetched = b)
    (h : FetchedInto s.fetch8 u bs) : FetchedInto s u (b :: bs) := by
  obtain ⟨hcpu, hmem, hcycles, hdma, hcost, htrace, hbus, hdev⟩ := h
  have hdev8 : s.fetch8.devices = tokenAfter s.devices [⟨.read, s.pc, b⟩] := by
    obtain ⟨ev, htr, hev, _⟩ := fetch8_handed s
    have hone : [⟨.read, s.pc, s.fetched⟩] = ev := List.append_cancel_right htr
    rw [hev, ← hone, hb]
  refine ⟨?_, hmem, hcycles, hdma, hcost, ?_, ?_, ?_⟩
  · rw [hcpu, List.length_cons, ← add_one_add_ofNat]
    rfl
  · rw [htrace, fetches_cons, List.append_assoc, ← hb]
    rfl
  · rw [hbus, List.getLast?_cons, ← hb]
    rfl
  · rw [hdev, fetches_cons, tokenAfter_append, ← hdev8]
    rfl

theorem fetchN_of_held {s : State} {bs : List Byte} (h : s.HoldsAtPc bs) :
    FetchedInto s (State.fetchN bs.length s) bs := by
  induction bs generalizing s with
  | nil => exact FetchedInto.refl s
  | cons b bs ih => exact (ih h.fetch8).cons h.fetched

/-- How many bytes are fetched ahead of the instruction's own accesses: all but JSR's third (45_control.md R201). -/
theorem fetchedFirst_opcode (i : Instr) :
    fetchedFirst i.opcode = ((encode i).take (if i.opcode = 0x20 then 2 else 3)).length := by
  obtain ⟨_, _, hlen⟩ := encode_eq_cons i
  rw [List.length_take, ← hlen]
  by_cases hjsr : i.opcode = 0x20
  · rw [hjsr]
    rfl
  · rw [fetchedFirst, if_neg hjsr, if_neg hjsr]
    exact (Nat.min_eq_right (Form.length_le_three _)).symm

/-- A step of a ready machine is the instruction at PC (60_exceptions.md R272, R273). -/
theorem step_of_ready {s : State} (h : s.Ready) : step s = s.runInstruction := by
  obtain ⟨hi, hh, hn, hirq⟩ := h
  have hmask : (s.irqLine && !s.p.i) = false := by rcases hirq with h | h <;> simp [h]
  unfold step
  rw [hi]
  unfold State.cpuStep
  rw [hh, hn, hmask]
  rfl

/-- Settles O6: the bytes fetched are the encoding, which decodes to the instruction; `fetchN_of_held` says what the
fetches left. -/
theorem fetchReadsHeldBytes : Obligations.FetchReadsHeldBytes := by
  intro s i hready hheld
  obtain ⟨rest, hcons, hlen⟩ := encode_eq_cons i
  have hop : s.fetched = i.opcode := State.HoldsAtPc.fetched (bs := rest) (hcons ▸ hheld)
  have hdecode : s.instruction = .ok (i, []) := by
    unfold State.instruction instrLength
    rw [hop, hlen, fetchedBytes_of_held hheld, (encode_encoded i).decode_eq]
  refine ⟨s.afterFetch, ?_, ?_⟩
  · rw [step_of_ready hready, State.runInstruction, hdecode]
  · unfold State.afterFetch
    rw [hop, fetchedFirst_opcode]
    exact fetchN_of_held (State.HoldsAtPc.take hheld _)

end Machine

end Sys2Proof
end

section
/-! O20, O21 and O22: which instructions write which part of the CPU's state (10_state.md R22 to R25, R27, R33, R36 to
R38). Said once for every instruction (`exec_obeys`): the parts its operation writes are parts that its row allows. -/

namespace Sys2Proof.Machine

open Sys2Proof

/-- Parts of the state that an instruction may write. Z and N go together: whatever writes one writes the other. -/
structure Parts where
  a : Bool := false
  x : Bool := false
  y : Bool := false
  sp : Bool := false
  c : Bool := false
  zn : Bool := false
  v : Bool := false
  i : Bool := false
  d : Bool := false
  pc : Bool := false
  mem : Bool := false
  halted : Bool := false

/-- The state without these parts, its bus side, its cycle account and the ROM switch. -/
def State.hide (ps : Parts) (s : State) : State :=
  { s.cpu with
    a := bif ps.a then 0 else s.a
    x := bif ps.x then 0 else s.x
    y := bif ps.y then 0 else s.y
    sp := bif ps.sp then 0 else s.sp
    pc := bif ps.pc then 0 else s.pc
    p :=
      { c := bif ps.c then false else s.p.c
        z := bif ps.zn then false else s.p.z
        i := bif ps.i then false else s.p.i
        d := bif ps.d then false else s.p.d
        v := bif ps.v then false else s.p.v
        n := bif ps.zn then false else s.p.n }
    mem := bif ps.mem then [] else s.mem
    halted := bif ps.halted then false else s.halted
    romSwitched := false }

/-- From `s` to `t` no part was written but these. -/
def Only (ps : Parts) (s t : State) : Prop := t.hide ps = s.hide ps

/-- What `Only` leaves as it was, part by part. -/
structure Unchanged (ps : Parts) (s t : State) : Prop where
  a : ps.a = false → t.a = s.a
  x : ps.x = false → t.x = s.x
  y : ps.y = false → t.y = s.y
  sp : ps.sp = false → t.sp = s.sp
  c : ps.c = false → t.p.c = s.p.c
  zn : ps.zn = false → t.p.z = s.p.z ∧ t.p.n = s.p.n
  v : ps.v = false → t.p.v = s.p.v
  i : ps.i = false → t.p.i = s.p.i
  d : ps.d = false → t.p.d = s.p.d
  pc : ps.pc = false → t.pc = s.pc
  mem : ps.mem = false → t.mem = s.mem
  halted : ps.halted = false → t.halted = s.halted
  nmiPending : t.nmiPending = s.nmiPending
  irqLine : t.irqLine = s.irqLine
  inputs : t.inputs = s.inputs
  cfg : t.cfg = s.cfg

theorem Only.unchanged {ps : Parts} {s t : State} (h : Only ps s t) : Unchanged ps s t := by
  have part {α : Type} (f : State → α) : f (t.hide ps) = f (s.hide ps) := congrArg f h
  exact
    { a := fun hp => by simpa [State.hide, hp] using part (·.a)
      x := fun hp => by simpa [State.hide, hp] using part (·.x)
      y := fun hp => by simpa [State.hide, hp] using part (·.y)
      sp := fun hp => by simpa [State.hide, hp] using part (·.sp)
      c := fun hp => by simpa [State.hide, hp] using part (·.p.c)
      zn := fun hp => by simpa [State.hide, hp] using And.intro (part (·.p.z)) (part (·.p.n))
      v := fun hp => by simpa [State.hide, hp] using part (·.p.v)
      i := fun hp => by simpa [State.hide, hp] using part (·.p.i)
      d := fun hp => by simpa [State.hide, hp] using part (·.p.d)
      pc := fun hp => by simpa [State.hide, hp] using part (·.pc)
      mem := fun hp => by simpa [State.hide, hp] using part (·.mem)
      halted := fun hp => by simpa [State.hide, hp] using part (·.halted)
      nmiPending := part (·.nmiPending)
      irqLine := part (·.irqLine)
      inputs := part (·.inputs)
      cfg := part (·.cfg) }

/-! ## The operations -/

theorem Only.trans {ps : Parts} {s t u : State} (h : Only ps s t) (h' : Only ps t u) : Only ps s u := Eq.trans h' h

/-- The end of a step writes the account alone. -/
theorem Only.finish {ps : Parts} {s t : State} (h : Only ps s t) (cost : Nat) : Only ps s (t.finish cost) := h

theorem SameButBus.only {s t : State} (h : SameButBus s t) (ps : Parts) : Only ps s t := by
  obtain ⟨_, _, _, rfl⟩ := h
  rfl

theorem busWrite_only {ps : Parts} (hp : ps.mem = true) (s : State) (a : Addr) (v : Byte) :
    Only ps s (s.busWrite a v) := by
  simp [Only, State.hide, State.cpu, hp]

theorem dummyWrite_only {ps : Parts} (hp : ps.mem = true) (s : State) (a : Addr) (v : Byte) :
    Only ps s (s.dummyWrite a v) := by
  unfold State.dummyWrite
  split
  · exact busWrite_only hp s a v
  · rfl

theorem setA_only {ps : Parts} (hp : ps.a = true) (s : State) (v : Byte) : Only ps s { s with a := v } := by
  simp [Only, State.hide, State.cpu, hp]

theorem setPc_only {ps : Parts} (hp : ps.pc = true) (s : State) (w : Addr) : Only ps s { s with pc := w } := by
  simp [Only, State.hide, State.cpu, hp]

theorem setC_only {ps : Parts} (hp : ps.c = true) (s : State) (b : Bool) : Only ps s (s.setC b) := by
  simp [Only, State.hide, State.cpu, hp]

theorem setNZ_only {ps : Parts} (hp : ps.zn = true) (s : State) (v : Byte) : Only ps s (s.setNZ v) := by
  simp [Only, State.hide, State.cpu, hp]

theorem setV_only {ps : Parts} (hp : ps.v = true) (s : State) (b : Bool) : Only ps s (s.setV b) := by
  simp [Only, State.hide, State.cpu, hp]

theorem setI_only {ps : Parts} (hp : ps.i = true) (s : State) (b : Bool) : Only ps s (s.setI b) := by
  simp [Only, State.hide, State.cpu, hp]

theorem setFlags_only {ps : Parts} (hc : ps.c = true) (hzn : ps.zn = true) (hv : ps.v = true) (hi : ps.i = true)
    (hd : ps.d = true) (s : State) (p : Flags) : Only ps s { s with p := p } := by
  simp [Only, State.hide, State.cpu, hc, hzn, hv, hi, hd]

/-- The flags and the register of a logic operation or a load. -/
theorem setA_setNZ_only {ps : Parts} (ha : ps.a = true) (hzn : ps.zn = true) (s : State) (v : Byte) :
    Only ps s (({ s with a := v } : State).setNZ v) :=
  (setA_only ha s v).trans (setNZ_only hzn _ v)

/-- The flags of a shift. -/
theorem setC_setNZ_only {ps : Parts} (hc : ps.c = true) (hzn : ps.zn = true) (s : State) (b : Bool) (v : Byte) :
    Only ps s ((s.setC b).setNZ v) :=
  (setC_only hc s b).trans (setNZ_only hzn _ v)

theorem addToA_only {ps : Parts} (ha : ps.a = true) (hc : ps.c = true) (hzn : ps.zn = true) (hv : ps.v = true)
    (s : State) (m : Byte) : Only ps s (s.addToA m) :=
  (((setA_only ha s _).trans (setC_only hc _ _)).trans (setV_only hv _ _)).trans (setNZ_only hzn _ _)

/-- Locating and loading an operand writes no part. -/
theorem locate_loaded_only (ps : Parts) (cls : Access) (m : Mode) (s : State) :
    Only ps s ((locate cls m s).opd.loaded (locate cls m s).st) :=
  ((locate_spec cls m s).2.1.trans (loaded_sameButBus _ _)).only ps

theorem readOp_only {ps : Parts} {m : Mode} {cost : Nat} {f : State → Byte → State} {s : State}
    (hf : ∀ u v, Only ps u (f u v)) : Only ps s (readOp m cost f s) :=
  ((locate_loaded_only ps .read m s).trans (hf _ _)).finish _

/-- In every mode but the accumulator's an operand is stored to memory, if at all. -/
theorem store_only {ps : Parts} (hp : ps.mem = true) (cls : Access) {m : Mode} (hm : m ≠ .acc) (s u : State)
    (v : Byte) : Only ps u ((locate cls m s).opd.store v u) ∧ Only ps u ((locate cls m s).opd.writeBack v u) := by
  have hacc : (locate cls m s).opd ≠ .acc := by
    rw [(locate_spec cls m s).1]
    cases m <;> simp [State.operandOf, State.effAddr] at hm ⊢
  cases ho : (locate cls m s).opd with
  | acc => exact absurd ho hacc
  | imm b => exact ⟨rfl, rfl⟩
  | mem ea crossed => exact ⟨busWrite_only hp u ea v, dummyWrite_only hp u ea v⟩

theorem writeOp_only {ps : Parts} {m : Mode} {cost : Nat} {v : Byte} {s : State} (hm : m ≠ .acc) (hp : ps.mem = true) :
    Only ps s (writeOp m cost v s) :=
  (((locate_spec .write m s).2.1.only ps).trans (store_only hp .write hm s _ v).1).finish cost

theorem rmwOp_only {ps : Parts} {m : Mode} {cost : Nat} {new : Byte → Byte} {g : State → Byte → Byte → State}
    {s : State} (hm : m ≠ .acc) (hp : ps.mem = true) (hg : ∀ u v r, Only ps u (g u v r)) :
    Only ps s (rmwOp m cost new g s) :=
  ((((locate_loaded_only ps .rmw m s).trans (store_only hp .rmw hm s _ _).2).trans
    (store_only hp .rmw hm s _ _).1).trans (hg _ _ _)).finish cost

theorem rmwOp_acc_only {ps : Parts} {cost : Nat} {new : Byte → Byte} {g : State → Byte → Byte → State} {s : State}
    (hp : ps.a = true) (hg : ∀ u v r, Only ps u (g u v r)) : Only ps s (rmwOp .acc cost new g s) :=
  (((locate_loaded_only ps .rmw .acc s).trans (setA_only hp _ _)).trans (hg _ _ _)).finish cost

theorem impliedOp_only {ps : Parts} {cost : Nat} {f : State → State} {s : State} (hf : ∀ u, Only ps u (f u)) :
    Only ps s (impliedOp cost f s) :=
  (((dummyRead_sameButBus s s.pc).only ps).trans (hf _)).finish cost

theorem branchOp_only (cond : Bool) (off : Byte) (s : State) : Only { pc := true } s (branchOp cond off s) := by
  have hd := dummyRead_sameButBus s s.pc
  unfold branchOp takeBranch
  simp only
  split
  · split
    · exact (((hd.trans (dummyRead_sameButBus _ _)).only _).trans (setPc_only rfl _ _)).finish 4
    · exact ((hd.only _).trans (setPc_only rfl _ _)).finish 3
  · rfl

theorem push_only {ps : Parts} (hs : ps.sp = true) (hm : ps.mem = true) (s : State) (v : Byte) :
    Only ps s (s.push v) := by
  simp [Only, State.hide, State.cpu, hs, hm]

theorem pull_only {ps : Parts} (hs : ps.sp = true) (s : State) : Only ps s s.pull := by
  simp [Only, State.hide, State.cpu, hs]

theorem pushPc_only {ps : Parts} (hs : ps.sp = true) (hm : ps.mem = true) (s : State) : Only ps s s.pushPc :=
  (push_only hs hm s _).trans (push_only hs hm _ _)

theorem fetch8_only {ps : Parts} (hp : ps.pc = true) (s : State) : Only ps s s.fetch8 :=
  ((busRead_sameButBus s s.pc).only ps).trans (setPc_only hp _ _)

theorem jumpThrough_only {ps : Parts} (hp : ps.pc = true) (s : State) (vec : Addr) : Only ps s (s.jumpThrough vec) :=
  ((busRead2_sameButBus s vec (vec + 1)).only ps).trans (setPc_only hp _ _)

theorem enterException_only (s : State) (brk i : Bool) (vec : Addr) :
    Only { sp := true, pc := true, mem := true, i := true } s (s.enterException brk i vec) :=
  (((pushPc_only rfl rfl s).trans (push_only rfl rfl _ _)).trans (setI_only rfl _ i)).trans
    (jumpThrough_only rfl _ vec)

theorem returnFromException_only (s : State) :
    Only { sp := true, pc := true, c := true, zn := true, v := true, i := true, d := true } s s.returnFromException :=
  ((((pull_only rfl s).trans (pull_only rfl _)).trans (pull_only rfl _)).trans
    (setFlags_only rfl rfl rfl rfl rfl _ _)).trans (setPc_only rfl _ _)

theorem returnToLink_only (s : State) : Only { sp := true, pc := true } s s.returnToLink :=
  (((pull_only rfl s).trans (pull_only rfl _)).trans ((dummyRead_sameButBus _ _).only _)).trans (setPc_only rfl _ _)

theorem pushLink_only {ps : Parts} (hs : ps.sp = true) (hm : ps.mem = true) (s : State) : Only ps s s.pushLink :=
  ((dummyRead_sameButBus s _).only ps).trans (pushPc_only hs hm _)

theorem skipPadding_only {ps : Parts} (hp : ps.pc = true) (s : State) : Only ps s s.skipPadding :=
  ((dummyRead_sameButBus s s.pc).only ps).trans (setPc_only hp _ _)

theorem pushOp_only (cost : Nat) (v : Byte) (s : State) : Only { sp := true, mem := true } s (pushOp cost v s) :=
  (((dummyRead_sameButBus s s.pc).only _).trans (push_only rfl rfl _ v)).finish cost

theorem pla_only (s : State) : Only { a := true, sp := true, zn := true } s
    ((({ s.beforePull.pull with a := s.beforePull.pulled } : State).setNZ s.beforePull.pulled).finish 4) :=
  ((((beforePull_sameButBus s).only _).trans (pull_only rfl _)).trans (setA_setNZ_only rfl rfl _ _)).finish 4

theorem plp_only (s : State) : Only { sp := true, c := true, zn := true, v := true, i := true, d := true } s
    (({ s.beforePull.pull with p := unpackP s.beforePull.pulled } : State).finish 4) :=
  ((((beforePull_sameButBus s).only _).trans (pull_only rfl _)).trans (setFlags_only rfl rfl rfl rfl rfl _ _)).finish 4

/-! ## What a row allows -/

/-- The row is one of each of these parts' writers, as the spec lists them (10_state.md R22 to R38). An `if` and
not an implication, so that `simp` reads the lists of the written parts alone. -/
@[simp] def Parts.AllowedBy (ps : Parts) (r : Row) : Prop :=
  (if ps.a then r.mode = .accumulator ∨ r.mnemonic ∈
    ["LDA", "PLA", "TXA", "TYA", "ADC", "SBC", "AND", "ORA", "EOR", "*LAX", "*SLO", "*RLA", "*SRE", "*RRA", "*ISC",
     "*ANC", "*ALR", "*ARR", "*LAS", "*SBC"] else True) ∧
  (if ps.x then r.mnemonic ∈ ["LDX", "TAX", "TSX", "INX", "DEX", "*LAX", "*AXS", "*LAS"] else True) ∧
  (if ps.y then r.mnemonic ∈ ["LDY", "TAY", "INY", "DEY"] else True) ∧
  (if ps.sp then r.mnemonic ∈ ["TXS", "PHA", "PHP", "PLA", "PLP", "JSR", "RTS", "RTI", "BRK", "*LAS"] else True) ∧
  (if ps.c then r.mnemonic ∈
    ["ADC", "SBC", "CMP", "CPX", "CPY", "ASL", "LSR", "ROL", "ROR", "CLC", "SEC", "PLP", "RTI", "*SLO", "*RLA",
     "*SRE", "*RRA", "*DCP", "*ISC", "*ANC", "*ALR", "*ARR", "*AXS", "*SBC"] else True) ∧
  (if ps.zn then r.mnemonic ∈
    ["LDA", "LDX", "LDY", "TAX", "TAY", "TXA", "TYA", "TSX", "PLA", "ADC", "SBC", "AND", "ORA", "EOR", "CMP", "CPX",
     "CPY", "BIT", "INC", "DEC", "INX", "INY", "DEX", "DEY", "ASL", "LSR", "ROL", "ROR", "PLP", "RTI", "*LAX",
     "*SLO", "*RLA", "*SRE", "*RRA", "*DCP", "*ISC", "*ANC", "*ALR", "*ARR", "*AXS", "*LAS", "*SBC"] else True) ∧
  (if ps.v then r.mnemonic ∈ ["ADC", "SBC", "BIT", "CLV", "PLP", "RTI", "*RRA", "*ISC", "*ARR", "*SBC"] else True) ∧
  (if ps.i then r.mnemonic ∈ ["SEI", "CLI", "PLP", "RTI", "BRK"] else True) ∧
  (if ps.d then r.mnemonic ∈ ["SED", "CLD", "PLP", "RTI"] else True) ∧
  (if ps.pc then r.access ∈ [.jump, .branch] ∨ r.mnemonic ∈ ["RTS", "RTI", "BRK"] else True) ∧
  (if ps.mem then r.access ∈ [.write, .rmw] ∨ r.mnemonic ∈ ["PHA", "PHP", "JSR", "BRK"] else True) ∧
  (if ps.halted then r.cls = .jam else True)

/-- From `s` to `t` an instruction with this row wrote parts that the row allows, and none at all where it is an
unofficial one that is a no-op (47_unofficial.md R232); JAM halts (R254). -/
def Obeys (r : Row) (s t : State) : Prop :=
  ∃ ps, Only ps s t ∧ ps.AllowedBy r ∧ (r.cls ≠ .official → s.cfg.policy ≠ .semantic → ps = {}) ∧
    (r.cls = .jam → t.halted = true)

/-! An instruction obeys its row where its operation writes `ps` alone; that the row allows `ps` is a fact about the
row, which `simp` decides once the instruction is known. -/

theorem official_obeys (ps : Parts) {r : Row} {s t u : State} (h : (Host.Outcome.next u : Result) = .next t)
    (hu : Only ps s u) (hr : r.cls = .official ∧ ps.AllowedBy r := by simp) : Obeys r s t := by
  obtain ⟨hcls, hall⟩ := hr
  cases h
  exact ⟨ps, hu, hall, fun hno => absurd hcls hno, fun hjam => by rw [hcls] at hjam; cases hjam⟩

/-- A no-op writes no part, whatever the row. -/
theorem noop_obeys {r : Row} (hr : r.cls ≠ .jam) (s : State) (cost : Nat) : Obeys r s (s.finish cost) :=
  ⟨{}, rfl, by simp, fun _ _ => rfl, fun hjam => absurd hjam hr⟩

theorem unofficial_obeys (ps : Parts) {r : Row} {op : Byte} {cost : Nat} {sem : State → State} {s t : State}
    (h : unofficial op cost sem s = .next t) (hsem : Only ps s (sem s))
    (hr : r.cls ≠ .jam ∧ ps.AllowedBy r := by simp) : Obeys r s t := by
  obtain ⟨hcls, hall⟩ := hr
  obtain ⟨_, rfl⟩ | ⟨hpol, rfl⟩ := unofficial_next h
  · exact noop_obeys hcls s cost
  · exact ⟨ps, hsem, hall, fun _ hno => absurd hpol hno, fun hjam => absurd hjam hcls⟩

theorem unstable_obeys {r : Row} {op : Byte} {cost : Nat} {s t : State} (h : unstable op cost s = .next t)
    (hr : r.cls ≠ .jam := by simp) : Obeys r s t := by
  obtain ⟨_, rfl⟩ := unstable_next h
  exact noop_obeys hr s cost

theorem jam_obeys {r : Row} {op : Byte} {s t : State} (h : jam op s = .next t) (hr : r.cls = .jam := by simp) :
    Obeys r s t := by
  obtain ⟨hpol, rfl⟩ := jam_next h
  have hhalt (u : State) : Only { halted := true } u { u with halted := true, lastCost := none } := rfl
  exact ⟨{ halted := true }, ((dummyRead_sameButBus s s.pc).only _).trans (hhalt _), by simp [hr],
    fun _ hno => absurd hpol hno, fun _ => rfl⟩

/-- Every instruction that goes on writes only what its row allows. -/
theorem exec_obeys {i : Instr} {s t : State} (h : exec i s = .next t) : Obeys i.row s t := by
  cases i with
  -- Loads, transfers, arithmetic and logic: the register they name, and flags.
  | ldaIndX | ldaZp | ldaImm | ldaAbs | ldaIndY | ldaZpX | ldaAbsY | ldaAbsX
  | andIndX | andZp | andImm | andAbs | andIndY | andZpX | andAbsY | andAbsX
  | oraIndX | oraZp | oraImm | oraAbs | oraIndY | oraZpX | oraAbsY | oraAbsX
  | eorIndX | eorZp | eorImm | eorAbs | eorIndY | eorZpX | eorAbsY | eorAbsX =>
    exact official_obeys { a := true, zn := true } h (readOp_only fun _ _ => setA_setNZ_only rfl rfl _ _)
  | ldxImm | ldxZp | ldxAbs | ldxZpY | ldxAbsY =>
    exact official_obeys { x := true, zn := true } h (readOp_only fun _ _ => rfl)
  | ldyImm | ldyZp | ldyAbs | ldyZpX | ldyAbsX =>
    exact official_obeys { y := true, zn := true } h (readOp_only fun _ _ => rfl)
  | adcIndX | adcZp | adcImm | adcAbs | adcIndY | adcZpX | adcAbsY | adcAbsX
  | sbcIndX | sbcZp | sbcImm | sbcAbs | sbcIndY | sbcZpX | sbcAbsY | sbcAbsX =>
    exact official_obeys { a := true, c := true, zn := true, v := true } h
      (readOp_only fun _ _ => addToA_only rfl rfl rfl rfl _ _)
  | cmpIndX | cmpZp | cmpImm | cmpAbs | cmpIndY | cmpZpX | cmpAbsY | cmpAbsX
  | cpxImm | cpxZp | cpxAbs | cpyImm | cpyZp | cpyAbs =>
    exact official_obeys { c := true, zn := true } h (readOp_only fun _ _ => rfl)
  | bitZp | bitAbs =>
    exact official_obeys { zn := true, v := true } h (readOp_only fun _ _ => rfl)
  | txa | tya => exact official_obeys { a := true, zn := true } h (impliedOp_only fun _ => rfl)
  | tax | tsx | inx | dex =>
    exact official_obeys { x := true, zn := true } h (impliedOp_only fun _ => rfl)
  | tay | iny | dey =>
    exact official_obeys { y := true, zn := true } h (impliedOp_only fun _ => rfl)
  | txs => exact official_obeys { sp := true } h (impliedOp_only fun _ => rfl)
  -- Flag instructions and NOP.
  | clc | sec => exact official_obeys { c := true } h (impliedOp_only fun _ => rfl)
  | cli | sei => exact official_obeys { i := true } h (impliedOp_only fun _ => rfl)
  | cld | sed => exact official_obeys { d := true } h (impliedOp_only fun _ => rfl)
  | clv => exact official_obeys { v := true } h (impliedOp_only fun _ => rfl)
  | nop => exact official_obeys {} h (impliedOp_only fun _ => rfl)
  -- Stores and read-modify-writes: memory, and the flags of the latter.
  | staIndX | staZp | staAbs | staIndY | staZpX | staAbsY | staAbsX
  | stxZp | stxAbs | stxZpY | styZp | styAbs | styZpX =>
    exact official_obeys { mem := true } h (writeOp_only nofun rfl)
  | incZp | incAbs | incZpX | incAbsX | decZp | decAbs | decZpX | decAbsX =>
    exact official_obeys { mem := true, zn := true } h (rmwOp_only nofun rfl fun _ _ _ => setNZ_only rfl _ _)
  | aslZp | aslAbs | aslZpX | aslAbsX | lsrZp | lsrAbs | lsrZpX | lsrAbsX
  | rolZp | rolAbs | rolZpX | rolAbsX | rorZp | rorAbs | rorZpX | rorAbsX =>
    exact official_obeys { mem := true, c := true, zn := true } h
      (rmwOp_only nofun rfl fun _ _ _ => setC_setNZ_only rfl rfl _ _ _)
  | aslAcc | lsrAcc | rolAcc | rorAcc =>
    exact official_obeys { a := true, c := true, zn := true } h
      (rmwOp_acc_only rfl fun _ _ _ => setC_setNZ_only rfl rfl _ _ _)
  -- The stack and control.
  | pha | php => exact official_obeys _ h (pushOp_only _ _ s)
  | pla => exact official_obeys _ h (pla_only s)
  | plp => exact official_obeys _ h (plp_only s)
  | bcc | bcs | beq | bne | bmi | bpl | bvc | bvs => exact official_obeys _ h (branchOp_only _ _ s)
  | jmpAbs => exact official_obeys { pc := true } h ((setPc_only rfl s _).finish 3)
  | jmpInd =>
    exact official_obeys { pc := true } h ((((busRead2_sameButBus s _ _).only _).trans (setPc_only rfl _ _)).finish 5)
  | jsr =>
    exact official_obeys { sp := true, pc := true, mem := true } h
      ((((pushLink_only rfl rfl s).trans (fetch8_only rfl _)).trans (setPc_only rfl _ _)).finish 6)
  | rts =>
    exact official_obeys _ h ((((beforeReturn_sameButBus s).only _).trans (returnToLink_only _)).finish 6)
  | rti =>
    exact official_obeys _ h ((((beforeReturn_sameButBus s).only _).trans (returnFromException_only _)).finish 6)
  | brk =>
    exact official_obeys _ h (((skipPadding_only rfl s).trans (enterException_only _ true true irqVector)).finish 7)
  -- The unofficial opcodes.
  | nop04 | nop0C | nop14 | nop1C | nop34 | nop3C | nop44 | nop54 | nop5C | nop64 | nop74 | nop7C | nop80 | nop82
  | nop89 | nopC2 | nopD4 | nopDC | nopE2 | nopF4 | nopFC =>
    exact unofficial_obeys {} h (readOp_only fun _ _ => rfl)
  | nop1A | nop3A | nop5A | nop7A | nopDA | nopFA =>
    exact unofficial_obeys {} h (impliedOp_only fun _ => rfl)
  | laxIndX | laxZp | laxAbs | laxIndY | laxZpY | laxAbsY =>
    exact unofficial_obeys { a := true, x := true, zn := true } h (readOp_only fun _ _ => rfl)
  | las =>
    exact unofficial_obeys { a := true, x := true, sp := true, zn := true } h (readOp_only fun _ _ => rfl)
  | anc0B | anc2B | alr =>
    exact unofficial_obeys { a := true, c := true, zn := true } h (readOp_only fun _ _ => rfl)
  | arr | sbcEB =>
    exact unofficial_obeys { a := true, c := true, zn := true, v := true } h (readOp_only fun _ _ => rfl)
  | axs =>
    exact unofficial_obeys { x := true, c := true, zn := true } h (readOp_only fun _ _ => rfl)
  | saxIndX | saxZp | saxAbs | saxZpY =>
    exact unofficial_obeys { mem := true } h (writeOp_only nofun rfl)
  | sloIndX | sloZp | sloAbs | sloIndY | sloZpX | sloAbsY | sloAbsX
  | rlaIndX | rlaZp | rlaAbs | rlaIndY | rlaZpX | rlaAbsY | rlaAbsX
  | sreIndX | sreZp | sreAbs | sreIndY | sreZpX | sreAbsY | sreAbsX =>
    exact unofficial_obeys { mem := true, a := true, c := true, zn := true } h
      (rmwOp_only nofun rfl fun _ _ _ => (setC_only rfl _ _).trans (setA_setNZ_only rfl rfl _ _))
  | rraIndX | rraZp | rraAbs | rraIndY | rraZpX | rraAbsY | rraAbsX =>
    exact unofficial_obeys { mem := true, a := true, c := true, zn := true, v := true } h
      (rmwOp_only nofun rfl fun _ _ _ => (setC_only rfl _ _).trans (addToA_only rfl rfl rfl rfl _ _))
  | iscIndX | iscZp | iscAbs | iscIndY | iscZpX | iscAbsY | iscAbsX =>
    exact unofficial_obeys { mem := true, a := true, c := true, zn := true, v := true } h
      (rmwOp_only nofun rfl fun _ _ _ => addToA_only rfl rfl rfl rfl _ _)
  | dcpIndX | dcpZp | dcpAbs | dcpIndY | dcpZpX | dcpAbsY | dcpAbsX =>
    exact unofficial_obeys { mem := true, c := true, zn := true } h (rmwOp_only nofun rfl fun _ _ _ => rfl)
  | ane | lxa | shaIndY | shaAbsY | shx | shy | tas => exact unstable_obeys h
  | jam02 | jam12 | jam22 | jam32 | jam42 | jam52 | jam62 | jam72 | jam92 | jamB2 | jamD2 | jamF2 =>
    exact jam_obeys h

/-! ## The obligations -/

/-- What was not left as it was, was written; so the row allows it. -/
theorem allowed_of_changed {written : Bool} {same allowed : Prop} (hsame : written = false → same)
    (hall : if written then allowed else True) (hchanged : ¬ same) : allowed := by
  cases written with
  | false => exact absurd (hsame rfl) hchanged
  | true => exact hall

/-- Settles O20: a changed register was written, so its row is one of the register's writers; a no-op writes none. -/
theorem registerWriters : Obligations.RegisterWriters := by
  intro i s t h
  obtain ⟨ps, honly, ⟨ha, hx, hy, hsp, _⟩, hnoop, _⟩ := exec_obeys h
  have hu := honly.unchanged
  refine ⟨allowed_of_changed hu.a ha, allowed_of_changed hu.x hx, allowed_of_changed hu.y hy,
    allowed_of_changed hu.sp hsp, fun hcls hpol => ?_⟩
  obtain rfl := hnoop hcls hpol
  exact ⟨hu.a rfl, hu.x rfl, hu.y rfl, hu.sp rfl⟩

/-- Settles O21: a changed flag was written, so its row is one of the flag's writers; a no-op writes none. -/
theorem flagWriters : Obligations.FlagWriters := by
  intro i s t h
  obtain ⟨ps, honly, ⟨_, _, _, _, hc, hzn, hv, hi, hd, _⟩, hnoop, _⟩ := exec_obeys h
  have hu := honly.unchanged
  refine ⟨allowed_of_changed hu.c hc, fun hchanged => allowed_of_changed hu.zn hzn (not_and_or.mpr hchanged),
    allowed_of_changed hu.v hv, allowed_of_changed hu.i hi, allowed_of_changed hu.d hd, fun hcls hpol => ?_⟩
  obtain rfl := hnoop hcls hpol
  have hsame : t.hide {} = s.hide {} := honly
  have hp := congrArg State.p hsame
  exact hp

/-- Settles O22: PC and memory as the registers; no operation writes the latches, the inputs or the parameters; JAM, and
no other row, writes `halted`. -/
theorem otherStateWriters : Obligations.OtherStateWriters := by
  intro i s t h
  obtain ⟨ps, honly, ⟨_, _, _, _, _, _, _, _, _, hpc, hmem, hhalted⟩, _, hjam⟩ := exec_obeys h
  have hu := honly.unchanged
  refine ⟨allowed_of_changed hu.pc hpc, fun ⟨k, hk⟩ => ?_, hu.nmiPending, hu.irqLine, hu.inputs, hu.cfg,
    fun ht => ?_, fun hor => ?_⟩
  · exact allowed_of_changed hu.mem hmem fun hsame => hk (by rw [hsame])
  · by_contra hno
    obtain ⟨hs, hcls⟩ := not_or.mp hno
    exact hcls (allowed_of_changed hu.halted hhalted fun hsame => hs (hsame ▸ ht))
  · rcases hor with hs | hcls
    · by_contra hno
      exact hno (hjam (allowed_of_changed hu.halted hhalted fun hsame => hno (hsame.trans hs)))
    · exact hjam hcls

end Sys2Proof.Machine
end

section
/-! O16 and O17: what a whole step keeps. Every part of it adds records in front and writes no byte of program ROM
(`Keeps`); a power-on and a snapshot load replace RAM alone. -/

namespace Sys2Proof.Machine

open Sys2Proof

/-- From `s` to `t` no record was lost and no byte of program ROM changed: the part of `Keeps` that no host call ends. -/
structure KeepsRecordAndRom (s t : State) : Prop where
  trace : ∃ accesses, t.trace = accesses ++ s.trace
  rom : ∀ k, 0x8000 ≤ k → t.mem.read k = s.mem.read k

theorem Keeps.recordAndRom {s t : State} (h : Keeps s t) : KeepsRecordAndRom s t := ⟨h.trace, h.rom⟩

theorem KeepsRecordAndRom.trans {s t u : State} (h : KeepsRecordAndRom s t) (h' : KeepsRecordAndRom t u) :
    KeepsRecordAndRom s u := by
  obtain ⟨⟨early, hearly⟩, hrom⟩ := h
  obtain ⟨⟨late, hlate⟩, hrom'⟩ := h'
  exact ⟨⟨late ++ early, by rw [hlate, hearly, List.append_assoc]⟩, fun k hk => (hrom' k hk).trans (hrom k hk)⟩

/-- Switching the console on draws RAM and keeps the cartridge; the reset sequence then reads the vector. -/
theorem powerOn_keepsRecordAndRom (s : State) (d : Draw) : KeepsRecordAndRom s (s.powerOn d) :=
  have hup : KeepsRecordAndRom s (s.poweredUp d) := ⟨⟨[], rfl⟩, poweredUp_rom s d⟩
  hup.trans (powerOn_keeps s d).recordAndRom

theorem load_keepsRecordAndRom (s : State) (k : Snapshot) : KeepsRecordAndRom s (s.load k) :=
  ⟨⟨[], rfl⟩, Memory.read_withRam s.mem k.ram⟩

/-- A step is the CPU's own, a soft reset, a power-on or a snapshot load, and none of them loses a record or a byte of
program ROM. -/
theorem step_keepsRecordAndRom {s t : State} (h : step s = .next t) : KeepsRecordAndRom s t := by
  obtain ⟨u, harr, hcase⟩ := step_cases s
  refine harr.keeps.1.recordAndRom.trans ?_
  obtain ⟨_, hstep⟩ | ⟨_, hstep⟩ | ⟨d, _, hstep⟩ | ⟨k, _, hstep⟩ := hcase <;> rw [hstep] at h
  · exact (cpuStep_keeps h).1.recordAndRom
  · cases h
    exact (softReset_keeps u).recordAndRom
  · cases h
    exact powerOn_keepsRecordAndRom u d
  · cases h
    exact load_keepsRecordAndRom u k

/-- Settles O16: whatever the step is, it keeps the record. -/
theorem traceOnlyGrows : Obligations.TraceOnlyGrows :=
  fun _ _ h => (step_keepsRecordAndRom h).trace

/-- Settles O17: whatever the step is, it keeps program ROM. -/
theorem romNeverChanges : Obligations.RomNeverChanges :=
  fun _ _ k h hk => (step_keepsRecordAndRom h).rom k hk

end Sys2Proof.Machine
end

section
/-! O24 and O25: which byte a bus read answers after writes, and what stands on the data bus (20_memory.md R53, R55,
R58). -/

namespace Sys2Proof.Machine

open Sys2Proof

/-- A bus write reaches one RAM cell, through any of its mirrors (20_memory.md R53). -/
theorem ram_busWrite (s : State) (a : Addr) (v : Byte) (c : Nat) :
    (s.busWrite a v).mem.ram c = if a.toNat ≤ 0x1FFF ∧ a.toNat % 0x800 = c then v else s.mem.ram c := by
  rw [State.busWrite_mem, isDevice_eq]
  by_cases h : 0x2000 ≤ a.toNat
  · rw [if_pos (decide_eq_true h), if_neg fun hlow => by omega]
  · rw [if_neg (by simpa using h), Memory.ram_write]
    have hlow : a.toNat ≤ 0x1FFF := by omega
    simp only [hlow, true_and, eq_comm (a := c)]
    rfl

/-- A RAM cell holds what the newest write that reached it wrote, or its earlier byte. -/
theorem ram_busWrites (writes : List (Addr × Byte)) (s : State) (c : Nat) :
    (writes.foldl (fun u w => u.busWrite w.1 w.2) s).mem.ram c =
      ((writes.reverse.find? fun w => decide (w.1.toNat ≤ 0x1FFF ∧ w.1.toNat % 0x800 = c)).map Prod.snd).getD
        (s.mem.ram c) := by
  induction writes generalizing s with
  | nil => rfl
  | cons w later ih =>
    rw [List.foldl_cons, ih, List.reverse_cons, List.find?_append, ram_busWrite]
    cases later.reverse.find? fun w => decide (w.1.toNat ≤ 0x1FFF ∧ w.1.toNat % 0x800 = c) with
    | some newest => rfl
    | none =>
      by_cases h : w.1.toNat ≤ 0x1FFF ∧ w.1.toNat % 0x800 = c <;> simp [h]

theorem busByte_ram (s : State) {a : Addr} (h : a.toNat ≤ 0x1FFF) : s.busByte a = s.mem.ram (a.toNat % 0x800) :=
  busByte_of_heldByte (heldByte_ram s (by omega))

/-- No device sees a read of RAM (20_memory.md R55). -/
theorem busRead_ram (s : State) {a : Addr} (h : a.toNat ≤ 0x1FFF) :
    s.busRead a = { s with dataBus := s.busByte a, trace := ⟨.read, a, s.busByte a⟩ :: s.trace } := by
  have hram : isDevice a = false := by
    rw [isDevice_eq]
    exact decide_eq_false (by omega)
  unfold State.busRead
  rw [hram]
  rfl

/-- Settles O24: an address and its lowest mirror reach one cell, which holds what the newest write to it wrote. -/
theorem ramMirrors : Obligations.RamMirrors := by
  intro s writes a ha
  have hmirror : (BitVec.ofNat 16 (a.toNat % 0x800) : Addr).toNat = a.toNat % 0x800 := by
    rw [BitVec.toNat_ofNat]
    omega
  refine ⟨_, rfl, ?_, ?_, busRead_ram _ ha⟩
  · rw [busByte_ram _ ha, busByte_ram _ (by omega), hmirror, Nat.mod_mod]
  · rw [busByte_ram _ ha, ram_busWrites]

/-- Outside RAM a byte is held exactly where the program ROM profile gives one (20_memory.md R56). -/
theorem romByte_eq_heldByte (s : State) {a : Addr} (h : 0x2000 ≤ a.toNat) : s.romByte a = s.heldByte a := by
  have hram : ¬ a.toNat < 0x2000 := by omega
  have hholds : s.romHolds = true ↔ s.romSwitched = false ∨ s.cfg.mapperFixed = true := by
    simp [State.romHolds]
  simp only [State.romByte, State.heldByte, hram, hholds, if_false, romBase]

/-- A cartridge address where no ROM byte is held is answered by the devices (20_memory.md R51, R58). -/
theorem busByte_of_not_held {s : State} {a : Addr} (ha : 0x4020 ≤ a.toNat) (h : s.heldByte a = none) :
    s.busByte a = (Config.busAnswer s.devices a).getD s.dataBus := by
  have hroute : route a = .cartridge := by
    unfold route
    rw [if_neg (by omega), if_neg (by omega), if_neg (by omega), if_neg (by omega)]
  unfold State.busByte State.deviceByte
  rw [hroute, romByte_eq_heldByte s (by omega), h, deviceAddr_of_not_ppu (by omega)]
  rfl

/-- Settles O25. -/
theorem dataBusLatch : Obligations.DataBusLatch := fun s a v =>
  ⟨State.busRead_dataBus s a, State.busWrite_dataBus s a v, fun h h' => busByte_openBus s a h (by omega),
    busByte_of_not_held⟩

end Sys2Proof.Machine
end

section
/-! O60 and O58: what the devices are handed by one bus access and by a whole instruction, and what a step costs. Said
once for every instruction (`exec_pays`): its accesses are handed on, and the step ends with its row's cost. -/

namespace Sys2Proof.Machine

open Sys2Proof

/-! ## One access to a device (20_memory.md R51, R52, R55) -/

theorem deviceAddr_toNat (a : Addr) :
    (deviceAddr a).toNat = if 0x2000 ≤ a.toNat ∧ a.toNat < 0x4000 then 0x2000 + a.toNat % 8 else a.toNat := by
  unfold deviceAddr
  split
  · rw [BitVec.toNat_add, BitVec.toNat_ofNat, show (0x2000 : Addr).toNat = 0x2000 from rfl]
    omega
  · rfl

/-- The PPU, the APU and the controllers answer the read themselves. -/
theorem busByte_device (s : State) {a : Addr} (h : 0x2000 ≤ a.toNat) (h' : a.toNat ≤ 0x4017) :
    s.busByte a = s.deviceByte a := by
  unfold State.busByte route
  rw [if_neg (by omega)]
  by_cases hppu : a.toNat < 0x4000
  · rw [if_pos hppu]
  · rw [if_neg hppu, if_pos (by omega)]

theorem busRead_device (s : State) {a : Addr} (h : 0x2000 ≤ a.toNat) :
    s.busRead a = { s with
      dataBus := s.busByte a, devices := Config.busAfterRead s.devices (deviceAddr a)
      trace := ⟨.read, a, s.busByte a⟩ :: s.trace } := by
  have hdev : isDevice a = true := decide_eq_true h
  unfold State.busRead
  rw [hdev]
  rfl

/-- Below 0x4020 a write outside RAM cannot switch ROM banks (20_memory.md R56). -/
theorem busWrite_device (s : State) {a : Addr} (v : Byte) (h : 0x2000 ≤ a.toNat) (h' : a.toNat ≤ 0x4017) :
    s.busWrite a v = { s with
      dataBus := v, devices := Config.busAfterWrite s.devices (deviceAddr a) v
      dmaWritten := s.dmaWritten || decide (a = 0x4014), trace := ⟨.write, a, v⟩ :: s.trace } := by
  have hdev : isDevice a = true := decide_eq_true h
  have hrom : decide (0x4020 ≤ a.toNat) = false := decide_eq_false (by omega)
  unfold State.busWrite
  rw [hdev, hrom, Bool.or_false]
  rfl

/-! ## The accesses of a step -/

/-- The accesses between two states are the records the later one has in front. -/
theorem newAccesses_of_trace {s t : State} {ev : List BusEvent} (h : t.trace = ev ++ s.trace) :
    newAccesses s t = ev := by
  unfold newAccesses
  rw [h, List.length_append, Nat.add_sub_cancel, List.take_left]

theorem Accessed.newAccesses_key {s t : State} {l : List Access1} (h : Accessed s t l) :
    (newAccesses s t).map BusEvent.key = l.reverse := by
  have hlen : t.trace.length - s.trace.length = l.reverse.length := by
    have := congrArg List.length h
    simp only [List.length_map, List.length_append] at this
    omega
  unfold newAccesses
  rw [List.map_take, h, hlen, List.take_left]

/-- Reads start no DMA (20_memory.md R62). -/
theorem Accessed.startsDma_of_reads {s t : State} {l : List Access1} (h : Accessed s t l)
    (hl : ∀ x ∈ l, x.1 = .read) : startsDma (newAccesses s t) = false := by
  rw [startsDma, List.any_eq_false]
  intro e he
  have hkey : e.key ∈ l.reverse := h.newAccesses_key ▸ List.mem_map_of_mem he
  have hread : e.dir = .read := hl _ (List.mem_reverse.mp hkey)
  simp [hread]

theorem dummies_reads {s : State} {l : List Access1} (hl : ∀ x ∈ l, x.1 = .read) : ∀ x ∈ s.dummies l, x.1 = .read := by
  unfold State.dummies
  split
  · exact hl
  · exact nofun

/-- Locating an operand only reads (40_addressing.md R116). -/
theorem locating_reads (s : State) (cls : Access) (m : Mode) : ∀ x ∈ s.locating cls m, x.1 = .read := by
  have hindex : ∀ x ∈ s.indexDummy cls m, x.1 = .read := by
    unfold State.indexDummy
    split
    · exact nofun
    · exact dummies_reads (by simp)
  have hone (a : Addr) : ∀ x ∈ s.dummies [(.read, a)], x.1 = .read := dummies_reads (by simp)
  cases m with
  | acc => exact hone _
  | imm b => exact nofun
  | zp b => exact nofun
  | zpX b => exact hone _
  | zpY b => exact hone _
  | abs w => exact nofun
  | absX w => exact hindex
  | absY w => exact hindex
  | indX b => exact List.forall_mem_append.mpr ⟨hone _, by simp⟩
  | indY b => exact List.forall_mem_append.mpr ⟨by simp, hindex⟩

/-- Class `read` only reads. -/
theorem readOp_startsDma (m : Mode) (cost : Nat) {f : State → Byte → State} (hf : RegistersOnly f) (s : State) :
    startsDma (newAccesses s (readOp m cost f s)) = false := by
  obtain ⟨_, _, hlocate⟩ := locate_spec .read m s
  obtain ⟨_, htrace, _⟩ := hf ((locate .read m s).opd.loaded (locate .read m s).st)
    ((locate .read m s).opd.value (locate .read m s).st)
  have hall := (hlocate.trans (loaded_accessed (locate .read m s).opd _)).of_trace (t' := readOp m cost f s) htrace
  refine hall.startsDma_of_reads (List.forall_mem_append.mpr ⟨locating_reads s .read m, ?_⟩)
  split
  · simp
  · exact nofun

theorem branchOp_startsDma (cond : Bool) (off : Byte) (s : State) :
    startsDma (newAccesses s (branchOp cond off s)) = false := by
  cases cond with
  | false =>
    obtain ⟨_, _, _, hall⟩ := branchOp_false_spec off s
    exact hall.startsDma_of_reads nofun
  | true =>
    obtain ⟨_, _, _, hall⟩ := branchOp_true_spec off s
    refine hall.startsDma_of_reads (dummies_reads ?_)
    split <;> simp

/-! ## The cost of a step -/

/-- From `s` to `t` an instruction with this row handed its accesses to the devices and ended its step with the row's
cost. What comes on top of the base cost is a read's or a branch's, and neither starts a DMA (40_addressing.md R114,
45_control.md R205). JAM ends its step with no cost (70_reset_and_hazards.md R308). -/
def Pays (r : Row) (s t : State) : Prop :=
  (r.cls = .jam ∧ r.cycles = none ∧ Handed s t ∧ t.lastCost = none ∧ startsDma (newAccesses s t) = false) ∨
  ∃ u base extra, r.cycles = some base ∧ Handed s u ∧ t = u.finish (base + extra) ∧
    (extra = 0 ∨ startsDma (newAccesses s t) = false ∧
      (extra = 1 ∧ r.pagePenalty = true ∨ extra ≤ 2 ∧ r.access = .branch))

/-- Setting registers and flags hands nothing to the devices. -/
theorem Handed.setRegisters {s t t' : State} (h : Handed s t)
    (hsame : t'.trace = t.trace ∧ t'.devices = t.devices ∧ t'.dmaWritten = t.dmaWritten ∧ t'.cycles = t.cycles ∧
      t'.cfg = t.cfg := by exact ⟨rfl, rfl, rfl, rfl, rfl⟩) : Handed s t' := by
  obtain ⟨htrace, hdevices, hmark, hcycles, hcfg⟩ := hsame
  exact h.congr htrace hdevices hmark hcycles hcfg

/-- A step of the base cost. -/
theorem Handed.pays {r : Row} {s u : State} {cost : Nat} (h : Handed s u) (hr : r.cycles = some cost := by simp) :
    Pays r s (u.finish cost) :=
  .inr ⟨u, cost, 0, hr, h, rfl, .inl rfl⟩

theorem readOp_pays {r : Row} {m : Mode} {cost : Nat} {f : State → Byte → State} {s : State}
    (hr : r.cycles = some cost ∧ (s.crosses m = true → r.pagePenalty = true) := by simp [State.crosses])
    (hf : RegistersOnly f := by exact fun _ _ => ⟨rfl, rfl, rfl, rfl, rfl, rfl, rfl⟩) :
    Pays r s (readOp m cost f s) := by
  obtain ⟨hcost, hpenalty⟩ := hr
  have hextra : (locate .read m s).opd.penalty = (s.crosses m).toNat := by
    rw [(locate_spec .read m s).1, penalty_operandOf]
  refine .inr ⟨_, cost, (locate .read m s).opd.penalty, hcost,
    hf.handed ((locate_handed .read m s).trans (loaded_handed _ _)) _, rfl, ?_⟩
  rw [hextra]
  cases hc : s.crosses m with
  | false => exact .inl rfl
  | true => exact .inr ⟨readOp_startsDma m cost hf s, .inl ⟨rfl, hpenalty hc⟩⟩

theorem writeOp_pays {r : Row} {m : Mode} {cost : Nat} {v : Byte} {s : State}
    (hr : r.cycles = some cost := by simp) : Pays r s (writeOp m cost v s) :=
  ((locate_handed .write m s).trans (store_handed _ v _)).pays hr

theorem rmwOp_pays {r : Row} {m : Mode} {cost : Nat} {new : Byte → Byte} {g : State → Byte → Byte → State} {s : State}
    (hr : r.cycles = some cost := by simp)
    (hg : ∀ n, RegistersOnly (fun t v => g t v n) := by exact fun _ _ _ => ⟨rfl, rfl, rfl, rfl, rfl, rfl, rfl⟩) :
    Pays r s (rmwOp m cost new g s) :=
  have hload := (locate_handed .rmw m s).trans (loaded_handed (locate .rmw m s).opd _)
  ((hg _).handed ((hload.trans (writeBack_handed _ _ _)).trans (store_handed _ _ _)) _).pays hr

theorem impliedOp_pays {r : Row} {cost : Nat} {f : State → State} {s : State}
    (hr : r.cycles = some cost := by simp)
    (hf : RegistersOnly (fun t _ => f t) := by exact fun _ _ => ⟨rfl, rfl, rfl, rfl, rfl, rfl, rfl⟩) :
    Pays r s (impliedOp cost f s) :=
  (hf.handed (dummyRead_handed s s.pc) 0).pays hr

/-- A branch costs 2 cycles, and at most 2 more where it is taken (45_control.md R205). -/
theorem branchOp_finishes (cond : Bool) (off : Byte) (s : State) :
    ∃ u extra, Handed s u ∧ branchOp cond off s = u.finish (2 + extra) ∧ extra ≤ 2 := by
  have hd := dummyRead_handed s s.pc
  unfold branchOp takeBranch
  split
  · simp only
    split
    · exact ⟨_, 2, (hd.trans (dummyRead_handed _ _)).setRegisters, rfl, le_refl 2⟩
    · exact ⟨_, 1, hd.setRegisters, rfl, by decide⟩
  · exact ⟨s, 0, Handed.refl s, rfl, by decide⟩

theorem branchOp_pays {r : Row} (cond : Bool) (off : Byte) (s : State)
    (hr : r.cycles = some 2 ∧ r.access = .branch := by simp) : Pays r s (branchOp cond off s) := by
  obtain ⟨hcost, hbranch⟩ := hr
  obtain ⟨u, extra, hu, hfinish, hle⟩ := branchOp_finishes cond off s
  exact .inr ⟨u, 2, extra, hcost, hu, hfinish, .inr ⟨branchOp_startsDma cond off s, .inr ⟨hle, hbranch⟩⟩⟩

/-! ## The stack and control -/

theorem pushOp_pays {r : Row} {cost : Nat} {v : Byte} {s : State} (hr : r.cycles = some cost := by simp) :
    Pays r s (pushOp cost v s) :=
  ((dummyRead_handed s s.pc).trans (push_handed _ v)).pays hr

theorem beforePull_handed (s : State) : Handed s s.beforePull :=
  (dummyRead_handed s s.pc).trans (dummyRead_handed _ _)

theorem beforeReturn_handed (s : State) : Handed s s.beforeReturn :=
  (dummyRead_handed s s.pc).trans (dummyRead_handed _ _)

theorem returnToLink_handed (s : State) : Handed s s.returnToLink :=
  (((pull_handed s).trans (pull_handed _)).trans (dummyRead_handed _ _)).setRegisters

theorem returnFromException_handed (s : State) : Handed s s.returnFromException :=
  (((pull_handed s).trans (pull_handed _)).trans (pull_handed _)).setRegisters

theorem pushLink_handed (s : State) : Handed s s.pushLink := (dummyRead_handed s _).trans (pushPc_handed _)

theorem skipPadding_handed (s : State) : Handed s s.skipPadding :=
  (dummyRead_handed s s.pc).setRegisters

/-! ## Every instruction -/

theorem official_pays {r : Row} {s t u : State} (h : (Host.Outcome.next u : Result) = .next t) (hu : Pays r s u) :
    Pays r s t := by
  cases h
  exact hu

theorem unofficial_pays {r : Row} {op : Byte} {cost : Nat} {sem : State → State} {s t : State}
    (h : unofficial op cost sem s = .next t) (hsem : Pays r s (sem s)) (hr : r.cycles = some cost := by simp) :
    Pays r s t := by
  obtain ⟨_, rfl⟩ | ⟨_, rfl⟩ := unofficial_next h
  · exact (Handed.refl s).pays hr
  · exact hsem

theorem unstable_pays {r : Row} {op : Byte} {cost : Nat} {s t : State} (h : unstable op cost s = .next t)
    (hr : r.cycles = some cost := by simp) : Pays r s t := by
  obtain ⟨_, rfl⟩ := unstable_next h
  exact (Handed.refl s).pays hr

theorem jam_pays {r : Row} {op : Byte} {s t : State} (h : jam op s = .next t)
    (hr : r.cls = .jam ∧ r.cycles = none := by simp) : Pays r s t := by
  obtain ⟨hcls, hcost⟩ := hr
  obtain ⟨_, rfl⟩ := jam_next h
  have hall := (dummyRead_accessed s s.pc).of_trace
    (t' := { s.dummyRead s.pc with halted := true, lastCost := none }) rfl
  exact .inl ⟨hcls, hcost, (dummyRead_handed s s.pc).setRegisters, rfl,
    hall.startsDma_of_reads (dummies_reads (by simp))⟩

/-- Every instruction that goes on pays the cost of its row. -/
theorem exec_pays {i : Instr} {s t : State} (h : exec i s = .next t) : Pays i.row s t := by
  cases i with
  -- Class `read`: loads, arithmetic, logic, compares and bit tests.
  | ldaIndX | ldaZp | ldaImm | ldaAbs | ldaIndY | ldaZpX | ldaAbsY | ldaAbsX
  | ldxImm | ldxZp | ldxAbs | ldxZpY | ldxAbsY | ldyImm | ldyZp | ldyAbs | ldyZpX | ldyAbsX
  | andIndX | andZp | andImm | andAbs | andIndY | andZpX | andAbsY | andAbsX
  | oraIndX | oraZp | oraImm | oraAbs | oraIndY | oraZpX | oraAbsY | oraAbsX
  | eorIndX | eorZp | eorImm | eorAbs | eorIndY | eorZpX | eorAbsY | eorAbsX
  | adcIndX | adcZp | adcImm | adcAbs | adcIndY | adcZpX | adcAbsY | adcAbsX
  | sbcIndX | sbcZp | sbcImm | sbcAbs | sbcIndY | sbcZpX | sbcAbsY | sbcAbsX
  | cmpIndX | cmpZp | cmpImm | cmpAbs | cmpIndY | cmpZpX | cmpAbsY | cmpAbsX
  | cpxImm | cpxZp | cpxAbs | cpyImm | cpyZp | cpyAbs | bitZp | bitAbs =>
    exact official_pays h readOp_pays
  -- Class `none`: transfers, flag instructions, NOP; and the accumulator forms.
  | txa | tya | tax | tsx | inx | dex | tay | iny | dey | txs
  | clc | sec | cli | sei | cld | sed | clv | nop =>
    exact official_pays h impliedOp_pays
  -- Classes `write` and `rmw`.
  | staIndX | staZp | staAbs | staIndY | staZpX | staAbsY | staAbsX
  | stxZp | stxAbs | stxZpY | styZp | styAbs | styZpX =>
    exact official_pays h writeOp_pays
  | incZp | incAbs | incZpX | incAbsX | decZp | decAbs | decZpX | decAbsX
  | aslZp | aslAbs | aslZpX | aslAbsX | lsrZp | lsrAbs | lsrZpX | lsrAbsX
  | rolZp | rolAbs | rolZpX | rolAbsX | rorZp | rorAbs | rorZpX | rorAbsX
  | aslAcc | lsrAcc | rolAcc | rorAcc =>
    exact official_pays h rmwOp_pays
  -- The stack and control.
  | pha | php => exact official_pays h pushOp_pays
  | pla | plp => exact official_pays h ((beforePull_handed s).trans (pull_handed _)).setRegisters.pays
  | bcc | bcs | beq | bne | bmi | bpl | bvc | bvs => exact official_pays h (branchOp_pays _ _ s)
  | jmpAbs => exact official_pays h (Handed.refl s).setRegisters.pays
  | jmpInd => exact official_pays h (busRead2_handed s _ _).setRegisters.pays
  | jsr => exact official_pays h ((pushLink_handed s).trans (fetch8_handed _)).setRegisters.pays
  | rts => exact official_pays h ((beforeReturn_handed s).trans (returnToLink_handed _)).pays
  | rti => exact official_pays h ((beforeReturn_handed s).trans (returnFromException_handed _)).pays
  | brk => exact official_pays h ((skipPadding_handed s).trans (enterException_handed _ true true irqVector)).pays
  -- The unofficial opcodes.
  | nop04 | nop0C | nop14 | nop1C | nop34 | nop3C | nop44 | nop54 | nop5C | nop64 | nop74 | nop7C | nop80 | nop82
  | nop89 | nopC2 | nopD4 | nopDC | nopE2 | nopF4 | nopFC
  | laxIndX | laxZp | laxAbs | laxIndY | laxZpY | laxAbsY | las | anc0B | anc2B | alr | arr | axs | sbcEB =>
    exact unofficial_pays h readOp_pays
  | nop1A | nop3A | nop5A | nop7A | nopDA | nopFA => exact unofficial_pays h impliedOp_pays
  | saxIndX | saxZp | saxAbs | saxZpY => exact unofficial_pays h writeOp_pays
  | sloIndX | sloZp | sloAbs | sloIndY | sloZpX | sloAbsY | sloAbsX
  | rlaIndX | rlaZp | rlaAbs | rlaIndY | rlaZpX | rlaAbsY | rlaAbsX
  | sreIndX | sreZp | sreAbs | sreIndY | sreZpX | sreAbsY | sreAbsX
  | rraIndX | rraZp | rraAbs | rraIndY | rraZpX | rraAbsY | rraAbsX
  | iscIndX | iscZp | iscAbs | iscIndY | iscZpX | iscAbsY | iscAbsX
  | dcpIndX | dcpZp | dcpAbs | dcpIndY | dcpZpX | dcpAbsY | dcpAbsX =>
    exact unofficial_pays h rmwOp_pays
  | ane | lxa | shaIndY | shaAbsY | shx | shy | tas => exact unstable_pays h
  | jam02 | jam12 | jam22 | jam32 | jam42 | jam52 | jam62 | jam72 | jam92 | jamB2 | jamD2 | jamF2 => exact jam_pays h

/-! ## The obligations -/

/-- Settles O60: a device is handed the access at the address it sees; an instruction hands on every one of its accesses
and then its cost (`exec_pays`). -/
theorem deviceAccesses : Obligations.DeviceAccesses := by
  refine ⟨fun s a seen v hlo hhi hseen => ?_, fun i s t h => ?_⟩
  · obtain rfl : seen = deviceAddr a := by
      apply BitVec.eq_of_toNat_eq
      rw [hseen, deviceAddr_toNat]
      simp only [hlo, true_and]
    exact ⟨busByte_device s hlo hhi, busRead_device s hlo, busWrite_device s v hlo hhi⟩
  · refine ⟨_, rfl, ?_⟩
    obtain ⟨hjam, _, ⟨ev, htrace, htoken, _⟩, _⟩ | ⟨u, base, extra, _, ⟨ev, htrace, htoken, _⟩, rfl, _⟩ := exec_pays h
    · rw [newAccesses_of_trace htrace]
      exact .inl ⟨hjam, htoken⟩
    · rw [newAccesses_of_trace (t := u.finish (base + extra)) htrace, ← htoken]
      exact .inr ⟨_, rfl, rfl⟩

/-- A step that wrote 0x4014 costs its row's base cost and the stall: reads and branches, which alone cost more, write
nothing. -/
theorem exec_dmaStall {i : Instr} {s t : State} (h : exec i s = .next t) (hdma : startsDma (newAccesses s t) = true) :
    ∃ base d, i.row.cycles = some base ∧ d = tokenAfter s.devices (newAccesses s t) ∧
      t.lastCost = some (base + Config.dmaStall d) ∧
      t.cycles = (s.cycles + (base + Config.dmaStall d)) % 2 ^ s.cfg.cycleWidth ∧
      t.devices = Config.busAfterCycles d (base + Config.dmaStall d) := by
  obtain ⟨_, _, _, _, hno⟩ | ⟨u, base, extra, hbase, ⟨ev, htrace, htoken, hmark, hcycles, hcfg⟩, rfl, hextra⟩ :=
    exec_pays h
  · rw [hno] at hdma
    cases hdma
  · obtain rfl : extra = 0 := hextra.resolve_right fun ⟨hno, _⟩ => by rw [hno] at hdma; cases hdma
    have hnew := newAccesses_of_trace (t := u.finish (base + 0)) htrace
    have hstall : u.stepCost base = base + Config.dmaStall u.devices := by
      rw [hnew] at hdma
      rw [State.stepCost, State.busStall, hmark, hdma, Bool.or_true, if_pos rfl]
    refine ⟨base, u.devices, hbase, by rw [hnew, htoken], ?_, ?_, ?_⟩
    · rw [Nat.add_zero, State.finish_lastCost, hstall]
    · rw [Nat.add_zero, State.finish_cycles, hstall, hcycles, hcfg]
    · rw [Nat.add_zero, State.finish_devices, hstall]

/-- Settles O58: for any instruction from `exec_dmaStall`; STA absolute to 0x4014 makes that one access. -/
theorem dmaStallIsCharged : Obligations.DmaStallIsCharged := by
  refine ⟨fun i s t => exec_dmaStall, fun s => ?_⟩
  have hexec : exec (.staAbs 0x4014) s = .next ((s.busWrite 0x4014 s.a).finish 4) := rfl
  have hnew : newAccesses s ((s.busWrite 0x4014 s.a).finish 4) = [⟨.write, 0x4014, s.a⟩] := newAccesses_of_trace rfl
  obtain ⟨base, d, hbase, hd, hcost, hcycles, _⟩ := exec_dmaStall hexec (by rw [hnew]; rfl)
  obtain rfl : 4 = base := by simpa using hbase
  rw [hnew] at hd
  exact ⟨_, d, hd, hexec, hnew, hcost, hcycles⟩

end Sys2Proof.Machine
end

section
/-! O1, O2, O3 and O5: the decoder and the encoder are inverse to each other, and the decoder fails on short strings
alone (30_encoding.md R80 to R87). `encode_encoded` finds each encoding in the opcode map; `opcodeForm_encodes` goes
through the opcode map and finds each of its forms in the encoder. -/

namespace Sys2Proof

/-! ## The opcode map against the encoder and the opcode table -/

/-- What the form of opcode byte `op` builds is encoded as that byte and then the operand. -/
inductive Form.Encodes (op : Byte) : Form → Prop
  | f1 {i : Instr} (h : encode i = [op]) : Form.Encodes op (.f1 i)
  | f2 {mk : Byte → Instr} (h : ∀ b, encode (mk b) = [op, b]) : Form.Encodes op (.f2 mk)
  | f3 {mk : Addr → Instr} (h : ∀ w, encode (mk w) = op :: leBytes w) : Form.Encodes op (.f3 mk)

/-- The encoder agrees with the opcode map on all 256 opcode bytes. -/
theorem opcodeForm_encodes (op : Byte) : (opcodeForm op).Encodes op := by
  fin_cases op <;> constructor <;> intros <;> rfl

/-- The table's mode gives every opcode byte the length that the opcode map gives it (R82). -/
theorem opcodeRow_mode_length : ∀ op : Byte, (opcodeRow op).mode.length = (opcodeForm op).length := by decide

theorem encode_length (i : Instr) : (encode i).length = i.row.mode.length := by
  obtain ⟨_, _, hlen⟩ := encode_eq_cons i
  rw [Instr.row, opcodeRow_mode_length, hlen]

/-! ## Decoding what was encoded, and encoding what was decoded -/

theorem Encoded.decode_append {i : Instr} {bytes : List Byte} (h : Encoded i bytes) (rest : List Byte) :
    decode (bytes ++ rest) = .ok (i, rest) := by
  cases h with
  | f1 h => exact decode_f1 h rest
  | f2 h b => exact decode_f2 h b rest
  | f3 h w =>
    have hread := decode_f3 h (loByte w) (hiByte w) rest
    rwa [word_hiByte_loByte] at hread

theorem decode_encode_append (i : Instr) (rest : List Byte) : decode (encode i ++ rest) = .ok (i, rest) :=
  (encode_encoded i).decode_append rest

/-- A string with all the bytes its opcode byte asks for begins with the encoding of an instruction. -/
theorem exists_eq_encode_append (op : Byte) (bs : List Byte) (h : (opcodeForm op).length ≤ bs.length + 1) :
    ∃ i rest, op :: bs = encode i ++ rest := by
  have henc := opcodeForm_encodes op
  generalize opcodeForm op = form at h henc
  cases henc with
  | @f1 i hi => exact ⟨i, bs, by rw [hi]; rfl⟩
  | @f2 mk hmk =>
    match bs with
    | [] => simp [Form.length] at h
    | b :: rest => exact ⟨mk b, rest, by rw [hmk]; rfl⟩
  | @f3 mk hmk =>
    match bs with
    | [] => simp [Form.length] at h
    | [_] => simp [Form.length] at h
    | lo :: hi :: rest => exact ⟨mk (word hi lo), rest, by rw [hmk, leBytes, loByte_word, hiByte_word]; rfl⟩

theorem decode_truncated (op : Byte) (bs : List Byte) (h : bs.length + 1 < (opcodeForm op).length) :
    decode (op :: bs) = .error (.truncated op) := by
  cases hf : opcodeForm op with
  | f1 i => simp [hf, Form.length] at h
  | f2 mk =>
    match bs with
    | [] => simp only [decode, hf]
    | _ :: _ => simp [hf, Form.length] at h
  | f3 mk =>
    match bs with
    | [] => simp only [decode, hf]
    | [_] => simp only [decode, hf]
    | _ :: _ :: _ =>
      simp only [hf, Form.length, List.length_cons] at h
      omega

/-- The decoder reads exactly the strings that begin with an encoding, and reads the instruction encoded. -/
theorem decode_eq_ok_iff {bytes : List Byte} {i : Instr} {rest : List Byte} :
    decode bytes = .ok (i, rest) ↔ bytes = encode i ++ rest := by
  refine ⟨fun h => ?_, fun h => h ▸ decode_encode_append i rest⟩
  match bytes with
  | [] => cases h
  | op :: bs =>
    obtain hlong | hshort := le_or_gt (opcodeForm op).length (bs.length + 1)
    · obtain ⟨j, tail, hbytes⟩ := exists_eq_encode_append op bs hlong
      rw [hbytes, decode_encode_append] at h
      cases h
      exact hbytes
    · rw [decode_truncated op bs hshort] at h
      cases h

theorem decode_cons_eq_error_iff {op : Byte} {bs : List Byte} {e : DecodeError} :
    decode (op :: bs) = .error e ↔ bs.length + 1 < (opcodeForm op).length ∧ e = .truncated op := by
  obtain hlong | hshort := le_or_gt (opcodeForm op).length (bs.length + 1)
  · obtain ⟨_, _, hok, _⟩ := decode_isOk op bs hlong
    simp [hok, hlong]
  · simp [decode_truncated op bs hshort, hshort, eq_comm]

/-- Settles O1: every encoding is found in the opcode map (`encode_encoded`), so this needs no well-formedness. -/
theorem decodeEncodeRoundTrip : Obligations.DecodeEncodeRoundTrip := fun i rest _ => decode_encode_append i rest

/-- Settles O2: what decodes is an encoding and the bytes left over. -/
theorem encodeDecodeRoundTrip : Obligations.EncodeDecodeRoundTrip := fun _ i _ h =>
  ⟨(decode_eq_ok_iff.mp h).symm, encode_length i⟩

/-- Settles O3: no opcode byte is undefined, so only the number of bytes can be wrong. -/
theorem decodeFailsOnlyWhenShort : Obligations.DecodeFailsOnlyWhenShort := by
  intro bytes e
  cases bytes with
  | nil => simp [decode, eq_comm]
  | cons op bs => simp [decode_cons_eq_error_iff, opcodeRow_mode_length]

namespace Machine

theorem fetchedBytes_instrLength (s : State) :
    ∃ bs, State.fetchedBytes (instrLength s.fetched) s = s.fetched :: bs := by
  obtain ⟨n, hn⟩ := instrLength_pos s.fetched
  exact ⟨State.fetchedBytes n s.fetch8, by rw [hn]; rfl⟩

/-- The instruction read at PC has the fetched opcode byte. -/
theorem opcode_of_instruction {s : State} {i : Instr} {rest : List Byte} (h : s.instruction = .ok (i, rest)) :
    i.opcode = s.fetched := by
  obtain ⟨bs, hbs⟩ := fetchedBytes_instrLength s
  obtain ⟨tail, hcons, _⟩ := encode_eq_cons i
  have hbytes : s.fetched :: bs = i.opcode :: (tail ++ rest) := by
    rw [← hbs, ← List.cons_append, ← hcons]
    exact decode_eq_ok_iff.mp h
  exact (List.head_eq_of_cons_eq hbytes).symm

/-- Settles O5: exactly the instruction's bytes are fetched, and a ready machine's step runs what they decode to. -/
theorem stepRunsDecodedInstruction : Obligations.StepRunsDecodedInstruction := by
  intro s i rest hready (h : s.instruction = .ok (i, rest))
  obtain ⟨j, hj⟩ := instruction_isOk s
  obtain ⟨rfl, rfl⟩ : i = j ∧ rest = [] := by simpa [h] using hj
  exact ⟨rfl, opcode_of_instruction h, by rw [step_of_ready hready, State.runInstruction, h]⟩

end Machine

end Sys2Proof
end

section
/-! Pulls, jumps and returns, told whole (42_transfer_stack.md R138, R139; 45_control.md R200 to R203): what
Laws/Shapes.lean and Laws/Stack.lean say of the other shapes of instruction. -/

namespace Sys2Proof.Machine

open Sys2Proof

/-- Setting registers and flags leaves the account of the step as it was. -/
theorem Moves.setRegisters {s t t' : State} {ws : List Host.Cell} {l : List Access1} (h : Moves s t ws l)
    (hsame : t'.mem = t.mem ∧ t'.trace = t.trace ∧ t'.cycles = t.cycles ∧ t'.dmaWritten = t.dmaWritten ∧
      t'.cfg = t.cfg := by exact ⟨rfl, rfl, rfl, rfl, rfl⟩) : Moves s t' ws l := by
  obtain ⟨hmem, htrace, hcycles, hmark, hcfg⟩ := hsame
  exact h.congr hmem htrace hcycles hmark hcfg

/-- A pull after its dummy reads (42_transfer_stack.md R138, R139). -/
theorem beforePull_pull_moves (s : State) : Moves s s.beforePull.pull []
    (s.dummies [(.read, s.pc), (.read, stackSlot s.sp)] ++ [(.read, stackSlot (s.sp + 1))]) := by
  have hmoves := (beforePull_moves s).trans (pull_moves s.beforePull)
  rwa [(beforePull_sameButBus s).sp] at hmoves

/-- PLA (R138). -/
theorem pla_spec (s : State) : RegisterStep s
    ((({ s.beforePull.pull with a := s.beforePull.pulled } : State).setNZ s.beforePull.pulled).finish 4) 4
    { s with
      a := s.mem.ram (stackCell (s.sp + 1)), sp := s.sp + 1, p := nz s.p (s.mem.ram (stackCell (s.sp + 1))) }
    (s.dummies [(.read, s.pc), (.read, stackSlot s.sp)] ++ [(.read, stackSlot (s.sp + 1))]) := by
  rw [beforePull_pulled, setNZ_eq]
  obtain ⟨_, _, _, hb⟩ := beforePull_sameButBus s
  refine (beforePull_pull_moves s).setRegisters.whole 4 ?_
  rw [hb]
  rfl

/-- PLP (R139). -/
theorem plp_spec (s : State) : RegisterStep s
    (({ s.beforePull.pull with p := unpackP s.beforePull.pulled } : State).finish 4) 4
    { s with sp := s.sp + 1, p := flagsOf (s.mem.ram (stackCell (s.sp + 1))) }
    (s.dummies [(.read, s.pc), (.read, stackSlot s.sp)] ++ [(.read, stackSlot (s.sp + 1))]) := by
  rw [beforePull_pulled, unpackP_eq_flagsOf]
  obtain ⟨_, _, _, hb⟩ := beforePull_sameButBus s
  refine (beforePull_pull_moves s).setRegisters.whole 4 ?_
  rw [hb]
  rfl

/-- RTI (45_control.md R203). -/
theorem rti_spec (s : State) : RegisterStep s (s.beforeReturn.returnFromException.finish 6) 6
    { s with
      sp := s.sp + 3
      pc := word (s.mem.ram (stackCell (s.sp + 3))) (s.mem.ram (stackCell (s.sp + 2)))
      p := flagsOf (s.mem.ram (stackCell (s.sp + 1))) }
    (s.dummies [(.read, s.pc), (.read, stackSlot s.sp)] ++
      [(.read, stackSlot (s.sp + 1)), (.read, stackSlot (s.sp + 2)), (.read, stackSlot (s.sp + 3))]) := by
  have hb := beforeReturn_sameButBus s
  have hmoves := (beforeReturn_moves s).trans (returnFromException_moves s.beforeReturn)
  rw [hb.sp] at hmoves
  refine hmoves.whole 6 ?_
  rw [returnFromException_cpu, hb.mem, hb.sp]
  obtain ⟨_, _, _, hb⟩ := hb
  rw [hb]
  rfl

/-- RTS (R202). -/
theorem rts_spec (s : State) : RegisterStep s (s.beforeReturn.returnToLink.finish 6) 6
    { s with sp := s.sp + 2, pc := s.pulledLink + 1 }
    (s.dummies [(.read, s.pc), (.read, stackSlot s.sp)] ++
      [(.read, stackSlot (s.sp + 1)), (.read, stackSlot (s.sp + 2))] ++ s.dummies [(.read, s.pulledLink)]) := by
  have hb := beforeReturn_sameButBus s
  have hlink : s.beforeReturn.pulledLink = s.pulledLink := by rw [pulledLink_eq, hb.mem, hb.sp, ← pulledLink_eq]
  have hpull := (beforeReturn_moves s).trans (pull2_moves s.beforeReturn)
  have hmoves := hpull.trans (dummyRead_moves _ s.pulledLink)
  rw [hb.sp, dummies_congr hpull.cfg] at hmoves
  have hd := dummyRead_sameButBus s.beforeReturn.pull.pull s.pulledLink
  unfold State.returnToLink
  rw [hlink]
  refine hmoves.setRegisters.whole 6 ?_
  obtain ⟨_, _, _, hd⟩ := hd
  obtain ⟨_, _, _, hb⟩ := hb
  rw [hd, hb, ← add_one_twice]
  rfl

/-- JMP absolute (R200). -/
theorem jmpAbs_spec (s : State) (w : Addr) :
    RegisterStep s (({ s with pc := w } : State).finish 3) 3 { s with pc := w } [] :=
  (Moves.refl s).setRegisters.whole 3 rfl

/-- JMP indirect goes to the word at the pointer; where its two bytes are held, that is known (R200). -/
theorem jmpInd_spec (s : State) (w : Addr) : ∃ lo hi,
    (∀ b, s.heldByte w = some b → lo = b) ∧ (∀ b, s.heldByte (indirectHigh w) = some b → hi = b) ∧
      RegisterStep s
        (({ s.busRead2 w (indirectHigh w) with pc := s.busWord w (indirectHigh w) } : State).finish 5) 5
        { s with pc := word hi lo } [(.read, w), (.read, indirectHigh w)] := by
  have hmoves := (busRead_moves s w).trans (busRead_moves _ (indirectHigh w))
  exact ⟨_, _, fun _ => busByte_of_heldByte,
    fun _ h => busByte_of_heldByte (((busRead_sameButBus s w).heldByte _).trans h),
    hmoves.setRegisters.whole 5 rfl⟩

theorem push_mem (s : State) (v : Byte) : (s.push v).mem = s.mem.write (stackCell s.sp) v := by
  have hb := s.sp.isLt
  have hlow : (stackSlot s.sp).toNat < 0x800 := by rw [stackSlot_toNat]; unfold stackCell; omega
  show (s.busWrite (stackSlot s.sp) v).mem = _
  rw [State.busWrite_mem, isDevice_eq, if_neg (by rw [decide_eq_true_eq]; omega), ramCell, ramSize,
    Nat.mod_eq_of_lt hlow, stackSlot_toNat]

/-- `s` with the link that JSR pushes standing on the stack (R201). -/
def State.withLink (s : State) : State :=
  { s with mem := (s.mem.write (stackCell s.sp) (hiByte s.pc)).write (stackCell (s.sp - 1)) (loByte s.pc) }

theorem pushLink_cpu (s : State) : s.pushLink.cpu = ({ s with sp := s.sp - 2 } : State).cpu := by
  have hd := dummyRead_sameButBus s (stackSlot s.sp)
  unfold State.pushLink
  rw [pushPc_cpu, hd.sp]
  exact cpu_withSp hd.cpu _

theorem pushLink_pc (s : State) : s.pushLink.pc = s.pc := State.dummyRead_pc s _

theorem pushLink_moves (s : State) :
    Moves s s.pushLink [(stackCell (s.sp - 1), loByte s.pc), (stackCell s.sp, hiByte s.pc)]
      (s.dummies [(.read, stackSlot s.sp)] ++ [(.write, stackSlot s.sp), (.write, stackSlot (s.sp - 1))]) := by
  have hd := dummyRead_sameButBus s (stackSlot s.sp)
  have hpush := pushPc_moves (s.dummyRead (stackSlot s.sp))
  rw [hd.sp, hd.pc] at hpush
  exact (dummyRead_moves s _).trans hpush

theorem cpu_withPc {s t : State} (h : t.cpu = s.cpu) (w : Addr) :
    ({ t with pc := w } : State).cpu = ({ s with pc := w } : State).cpu := by
  show ({ t.cpu with pc := w } : State) = { s.cpu with pc := w }
  rw [h]

theorem pushLink_mem (s : State) : s.pushLink.mem = s.withLink.mem := by
  have hd := dummyRead_sameButBus s (stackSlot s.sp)
  unfold State.pushLink State.pushPc State.withLink
  rw [push_mem, push_mem, push_sp, hd.mem, hd.sp, hd.pc]

theorem heldByte_congr {s t : State} (hm : t.mem = s.mem) (hr : t.romSwitched = s.romSwitched) (hc : t.cfg = s.cfg)
    (a : Addr) : t.heldByte a = s.heldByte a := by
  unfold State.heldByte
  rw [hm, hr, hc]

/-- JSR fetches its high target byte from the memory as its pushes left it (R201). -/
theorem pushLink_heldByte (s : State) (a : Addr) : s.pushLink.heldByte a = s.withLink.heldByte a := by
  obtain ⟨_, _, _, _, _, _, _, _, _, hrom, _, hcfg⟩ := (cpu_eq_iff _ _).mp (pushLink_cpu s)
  exact heldByte_congr (pushLink_mem s) hrom hcfg a

/-- JSR (R201). -/
theorem jsr_spec (s : State) (w : Addr) : ∃ hi, (∀ b, s.withLink.heldByte s.pc = some b → hi = b) ∧
    WholeStep s (({ s.pushLink.fetch8 with pc := word s.pushLink.fetched (loByte w) } : State).finish 6) 6
      { s with sp := s.sp - 2, pc := word hi (loByte w) }
      [(stackCell (s.sp - 1), loByte s.pc), (stackCell s.sp, hiByte s.pc)]
      (s.dummies [(.read, stackSlot s.sp)] ++
        [(.write, stackSlot s.sp), (.write, stackSlot (s.sp - 1)), (.read, s.pc)]) := by
  have hpc := pushLink_pc s
  have hmoves := (pushLink_moves s).trans (busRead_moves s.pushLink s.pushLink.pc)
  rw [hpc, List.append_assoc] at hmoves
  refine ⟨s.pushLink.fetched, fun b hb => ?_, ?_⟩
  · rw [← pushLink_heldByte] at hb
    rw [State.fetched, hpc]
    exact busByte_of_heldByte hb
  · rw [State.fetch8, hpc]
    exact hmoves.setRegisters.whole 6 (cpu_withPc (pushLink_cpu s) _)

end Sys2Proof.Machine
end

section
/-! O30: dummy accesses change nothing but the bus side (40_addressing.md R116, R117). The specification of each shape
of instruction tells both runs alike, whatever `DummyAccesses` is; what it leaves free is the byte a read answers, and a
held byte is not free. -/

namespace Sys2Proof.Machine

open Sys2Proof

/-! ## The same step with dummy accesses -/

/-- The same state with `DummyAccesses = true`. -/
def State.dummiesOn (s : State) : State := { s with cfg := { s.cfg with dummyAccesses := true } }

/-- The two ends agree on every register, flag, latch and byte, on the counter and on the cost (R117). -/
structure AgreeButDummies (t t' : State) : Prop where
  cpu : t'.cpu = t.dummiesOn.cpu
  mem : ∀ k, t'.mem.read k = t.mem.read k
  cycles : t'.cycles = t.cycles
  lastCost : t'.lastCost = t.lastCost

/-- Every access between `s` and `t` falls in internal RAM or held program ROM. -/
def HeldAccesses (s t : State) : Prop := ∀ e ∈ newAccesses s t, (s.heldByte e.addr).isSome = true

/-- `r` and `r'`, the second run from `s'` with dummy accesses, end alike where both go on and all accesses of the
second fall in RAM or held ROM. -/
def EndAlike (s' : State) (r r' : Result) : Prop :=
  ∀ t t', r = .next t → r' = .next t' → HeldAccesses s' t' → AgreeButDummies t t'

/-- The byte at an address that a step accessed is held. -/
theorem HeldAccesses.of_accessed {s t : State} {l : List Access1} (h : HeldAccesses s t) (hacc : Accessed s t l)
    {d : Dir} {a : Addr} (hmem : (d, a) ∈ l) : ∃ b, s.heldByte a = some b := by
  have hkey : (d, a) ∈ (newAccesses s t).map BusEvent.key := by
    rw [hacc.newAccesses_key]
    exact List.mem_reverse.mpr hmem
  obtain ⟨e, he, hea⟩ := List.mem_map.mp hkey
  obtain rfl : e.addr = a := congrArg Prod.snd hea
  exact Option.isSome_iff_exists.mp (h e he)

/-- What an instruction works on in memory is held: each of the three classes accesses it (40_addressing.md R115). -/
theorem HeldAccesses.operand {s t : State} {cls : Access} {m : Mode} {ea : Addr} (h : HeldAccesses s t)
    (hacc : Accessed s t (s.plan cls m)) (hea : s.effAddr m = some ea)
    (hcls : cls = .read ∨ cls = .write ∨ cls = .rmw := by simp) : ∃ b, s.heldByte ea = some b := by
  rw [State.plan, hea] at hacc
  obtain rfl | rfl | rfl := hcls
  · exact h.of_accessed hacc (d := .read) (by simp [State.operating])
  · exact h.of_accessed hacc (d := .write) (by simp [State.operating])
  · exact h.of_accessed hacc (d := .read) (by simp [State.operating])

/-- The DMA register is a device's (20_memory.md R62). -/
theorem ne_dma_of_held {s : State} {a : Addr} {b : Byte} (h : s.heldByte a = some b) : a ≠ 0x4014 := by
  rintro rfl
  simp [State.heldByte] at h

theorem dummiesOn_cpu_congr {t u : State} (h : t.cpu = u.cpu) : t.dummiesOn.cpu = u.dummiesOn.cpu := by
  show t.cpu.dummiesOn = u.cpu.dummiesOn
  rw [h]

theorem WholeStep.accessed {s t u : State} {c : Nat} {ws : List Host.Cell} {l : List Access1}
    (h : WholeStep s t c u ws l) : Accessed s t l := by
  obtain ⟨_, _, _, hacc⟩ := h
  exact hacc

/-! ## Steps that are told alike end alike -/

section
variable {s t t' u : State} (hdma : s.dmaWritten = false)
include hdma

/-- Without a write to 0x4014 a step costs its base cost. -/
theorem Charged.of_no_dma {c : Nat} (h : Charged s t c false) :
    t.lastCost = some c ∧ t.cycles = (s.cycles + c) % 2 ^ s.cfg.cycleWidth := by
  obtain ⟨stall, hstall, hcost, hcycles, _⟩ := h
  obtain rfl := hstall hdma rfl
  exact ⟨hcost, hcycles⟩

/-- Two ends agree that the same registers, written cells and cost tell. -/
theorem AgreeButDummies.of_charged {c : Nat} {ws : List Host.Cell} (hcpu : t.cpu = u.cpu)
    (hcpu' : t'.cpu = u.dummiesOn.cpu) (hw : Written s t ws) (hw' : Written s.dummiesOn t' ws)
    (hc : Charged s t c false) (hc' : Charged s.dummiesOn t' c false) : AgreeButDummies t t' := by
  obtain ⟨hcost, hcycles⟩ := hc.of_no_dma hdma
  obtain ⟨hcost', hcycles'⟩ := hc'.of_no_dma hdma
  exact ⟨hcpu'.trans (dummiesOn_cpu_congr hcpu).symm, fun k => (hw' k).trans (hw k).symm, hcycles'.trans hcycles.symm,
    hcost'.trans hcost.symm⟩

theorem WholeStep.agree {c : Nat} {ws : List Host.Cell} {l l' : List Access1} (h : WholeStep s t c u ws l)
    (h' : WholeStep s.dummiesOn t' c u.dummiesOn ws l') : AgreeButDummies t t' := by
  obtain ⟨hcpu, hw, hc, _⟩ := h
  obtain ⟨hcpu', hw', hc', _⟩ := h'
  exact .of_charged hdma hcpu hcpu' hw hw' hc hc'

end

/-- Where the operand's byte is held, both runs load it. -/
theorem Loaded.unique {s t t' : State} {m : Mode} {v v' : Byte} (h : Loaded s t m v) (h' : Loaded s.dummiesOn t' m v')
    (hheld : ∀ ea, s.effAddr m = some ea → ∃ b, s.heldByte ea = some b) : v' = v := by
  have haddr : s.dummiesOn.effAddr m = s.effAddr m := rfl
  unfold Loaded at h h'
  rw [haddr] at h'
  cases hea : s.effAddr m with
  | none =>
    rw [hea] at h h'
    exact h'.trans h.symm
  | some ea =>
    rw [hea] at h h'
    obtain ⟨b, hb⟩ := hheld ea hea
    obtain ⟨_, _, _, _, hv, _⟩ := h
    obtain ⟨_, _, _, _, hv', _⟩ := h'
    rw [hv b hb, hv' b hb]

section
variable {s t t' : State} {m : Mode} {cost : Nat} (hdma : s.dmaWritten = false)
include hdma

theorem ReadStep.agree {f : State → Byte → State} (hf : ∀ u v, f u.dummiesOn v = (f u v).dummiesOn)
    (h : ReadStep s t m cost (f s)) (h' : ReadStep s.dummiesOn t' m cost (f s.dummiesOn))
    (hheld : HeldAccesses s.dummiesOn t') : AgreeButDummies t t' := by
  obtain ⟨v, hv, hcpu, hw, hc, _⟩ := h
  obtain ⟨v', hv', hcpu', hw', hc', hacc⟩ := h'
  obtain rfl : v' = v := hv.unique hv' fun _ hea => hheld.operand hacc hea
  rw [hf] at hcpu'
  exact .of_charged hdma hcpu hcpu' hw hw' hc hc'

theorem WriteStep.agree {v : Byte} (h : WriteStep s t m cost v) (h' : WriteStep s.dummiesOn t' m cost v)
    (hheld : HeldAccesses s.dummiesOn t') : AgreeButDummies t t' := by
  obtain ⟨ea, hea, hcpu, hw, hc, _⟩ := h
  obtain ⟨ea', hea', hcpu', hw', hc', hacc, _⟩ := h'
  obtain rfl : ea = ea' := Option.some.inj (hea.symm.trans hea')
  obtain ⟨b, hb⟩ := hheld.operand hacc hea'
  have hno : decide (ea = 0x4014) = false := decide_eq_false (ne_dma_of_held hb)
  rw [hno] at hc hc'
  exact .of_charged hdma hcpu hcpu' hw hw' hc hc'

theorem ModifyStep.agree {new : Byte → Byte} {upd : State → Byte → State}
    (hu : ∀ u v, upd u.dummiesOn v = (upd u v).dummiesOn)
    (h : ModifyStep s t m cost new upd) (h' : ModifyStep s.dummiesOn t' m cost new upd)
    (hheld : HeldAccesses s.dummiesOn t') : AgreeButDummies t t' := by
  obtain ⟨ea, v, hea, hv, hcpu, hw, hc, _⟩ := h
  obtain ⟨ea', v', hea', hv', hcpu', hw', hc', hacc, _⟩ := h'
  obtain rfl : ea = ea' := Option.some.inj (hea.symm.trans hea')
  obtain ⟨b, hb⟩ := hheld.operand hacc hea'
  obtain rfl : v' = v := hv.unique hv' fun ea' hea' => ⟨b, Option.some.inj (hea.symm.trans hea') ▸ hb⟩
  have hno : decide (ea = 0x4014) = false := decide_eq_false (ne_dma_of_held hb)
  rw [hno] at hc hc'
  exact .of_charged hdma hcpu (hcpu'.trans (congrArg State.cpu (hu (s.noteWrite ea) v'))) hw hw' hc hc'

/-- Both entries go where the held vector points. -/
theorem EntryStep.agree {ret : Addr} {brk : Bool} {p' : Flags} {nmi' : Bool} {vec : Addr} {l l' : List Access1}
    (h : EntryStep s t ret brk p' nmi' vec l) (h' : EntryStep s.dummiesOn t' ret brk p' nmi' vec l')
    (hheld : HeldAccesses s.dummiesOn t') : AgreeButDummies t t' := by
  obtain ⟨⟨lo, hi, hpc, _, hlo, hhi⟩, hwhole⟩ := h
  obtain ⟨⟨lo', hi', hpc', _, hlo', hhi'⟩, hwhole'⟩ := h'
  have hacc := hwhole'.accessed
  obtain ⟨b, hb⟩ := hheld.of_accessed hacc (d := .read) (a := vec) (by simp)
  obtain ⟨c, hc⟩ := hheld.of_accessed hacc (d := .read) (a := vec + 1) (by simp)
  have hsame : t'.pc = t.pc := by rw [hpc, hpc', hlo b hb, hlo' b hb, hhi c hc, hhi' c hc]
  rw [hsame] at hwhole'
  exact hwhole.agree hdma hwhole'

end

/-! ## The shapes of an instruction -/

/-- `f` changes registers and flags alone, and what it makes of them depends on nothing else. -/
structure OfRegisters (f : State → Byte → State) : Prop where
  only : RegistersOnly f
  cpu : ∀ u v, (f u v).cpu = (f u.cpu v).cpu
  dummiesOn : ∀ u v, f u.dummiesOn v = (f u v).dummiesOn

theorem OfRegisters.cpu_congr {f : State → Byte → State} (hf : OfRegisters f) {t u : State} (h : t.cpu = u.cpu)
    (v : Byte) : (f t v).cpu = (f u v).cpu := by
  rw [hf.cpu t, h, ← hf.cpu u]

theorem read_write_isSome {m : Memory} {k : Nat} (a : Nat) (v : Byte) (h : (m.read k).isSome = true) :
    ((m.write a v).read k).isSome = true := by
  rw [Memory.read_write]
  split
  · rfl
  · exact h

/-- Pushing the link takes no byte away. -/
theorem withLink_held {s : State} {a : Addr} (h : ∃ b, s.heldByte a = some b) :
    ∃ b, s.withLink.heldByte a = some b := by
  have hrom : s.withLink.romSwitched = s.romSwitched := rfl
  have hcfg : s.withLink.cfg = s.cfg := rfl
  rw [← Option.isSome_iff_exists] at h ⊢
  unfold State.heldByte at h ⊢
  rw [hrom, hcfg]
  split at h
  · next hram =>
    rw [if_pos hram]
    rfl
  · next hram =>
    rw [if_neg hram]
    split at h
    · next hheld =>
      rw [if_pos hheld]
      exact read_write_isSome _ _ (read_write_isSome _ _ h)
    · cases h

theorem EndAlike.next {s' u u' : State} (h : HeldAccesses s' u' → AgreeButDummies u u') :
    EndAlike s' (.next u) (.next u') := by
  intro t t' ht ht'
  cases ht
  cases ht'
  exact h

theorem EndAlike.ite {s' : State} {c : Prop} [Decidable c] {r₁ r₂ r₁' r₂' : Result} (h₁ : EndAlike s' r₁ r₁')
    (h₂ : EndAlike s' r₂ r₂') : EndAlike s' (if c then r₁ else r₂) (if c then r₁' else r₂') := by
  split
  · exact h₁
  · exact h₂

/-- JAM returns no cost, and writes nothing but `halted` (47_unofficial.md R254). -/
theorem jam_endAlike {op : Byte} {s : State} : EndAlike s.dummiesOn (jam op s) (jam op s.dummiesOn) := by
  intro t t' ht ht' _
  obtain ⟨_, rfl⟩ := jam_next ht
  obtain ⟨_, rfl⟩ := jam_next ht'
  obtain ⟨_, _, _, hu⟩ := dummyRead_sameButBus s s.pc
  obtain ⟨_, _, _, hu'⟩ := dummyRead_sameButBus s.dummiesOn s.dummiesOn.pc
  rw [hu, hu']
  exact ⟨rfl, fun _ => rfl, rfl, rfl⟩

section
variable {s : State} (hdma : s.dmaWritten = false)
include hdma

theorem WholeStep.endAlike {t t' u u' : State} {c : Nat} {ws : List Host.Cell} {l l' : List Access1}
    (h : WholeStep s t c u ws l) (h' : WholeStep s.dummiesOn t' c u' ws l') (hu : u' = u.dummiesOn := by exact rfl) :
    EndAlike s.dummiesOn (.next t) (.next t') := by
  subst hu
  exact .next fun _ => h.agree hdma h'

theorem readOp_endAlike {m : Mode} {cost : Nat} {f : State → Byte → State} (hm : m ≠ .acc := by exact nofun)
    (hf : OfRegisters f := by exact ⟨fun _ _ => ⟨rfl, rfl, rfl, rfl, rfl, rfl, rfl⟩, fun _ _ => rfl, fun _ _ => rfl⟩) :
    EndAlike s.dummiesOn (.next (readOp m cost f s)) (.next (readOp m cost f s.dummiesOn)) :=
  have hread (u : State) : ReadStep u (readOp m cost f u) m cost (f u) :=
    readOp_spec m cost f u (f u) hm hf.only fun _ v ht => hf.cpu_congr ht v
  .next ((hread s).agree hdma hf.dummiesOn (hread s.dummiesOn))

theorem writeOp_endAlike {m : Mode} {cost : Nat} {v : Byte}
    (hm : ∃ ea, s.effAddr m = some ea := by exact ⟨_, rfl⟩) :
    EndAlike s.dummiesOn (.next (writeOp m cost v s)) (.next (writeOp m cost v s.dummiesOn)) := by
  obtain ⟨ea, hea⟩ := hm
  exact .next ((writeOp_spec m cost v s ea hea).agree hdma (writeOp_spec m cost v s.dummiesOn ea hea))

theorem rmwOp_endAlike {m : Mode} {cost : Nat} {new : Byte → Byte} {g : State → Byte → Byte → State}
    (hm : ∃ ea, s.effAddr m = some ea := by exact ⟨_, rfl⟩)
    (hg : ∀ r, OfRegisters (fun u v => g u v r) := by
      exact fun _ => ⟨fun _ _ => ⟨rfl, rfl, rfl, rfl, rfl, rfl, rfl⟩, fun _ _ => rfl, fun _ _ => rfl⟩) :
    EndAlike s.dummiesOn (.next (rmwOp m cost new g s)) (.next (rmwOp m cost new g s.dummiesOn)) := by
  obtain ⟨ea, hea⟩ := hm
  have hmodify (u : State) (hu : u.effAddr m = some ea) :
      ModifyStep u (rmwOp m cost new g u) m cost new (fun t v => g t v (new v)) :=
    rmwOp_spec m cost new g u _ ea hu (fun r => (hg r).only) fun _ _ v ht _ => (hg (new v)).cpu_congr ht v
  exact .next ((hmodify s hea).agree hdma (fun u v => (hg (new v)).dummiesOn u v) (hmodify s.dummiesOn hea))

theorem rmwOp_acc_endAlike {cost : Nat} {new : Byte → Byte} {g : State → Byte → Byte → State}
    (hg : ∀ r, OfRegisters (fun u v => g u v r) := by
      exact fun _ => ⟨fun _ _ => ⟨rfl, rfl, rfl, rfl, rfl, rfl, rfl⟩, fun _ _ => rfl, fun _ _ => rfl⟩) :
    EndAlike s.dummiesOn (.next (rmwOp .acc cost new g s)) (.next (rmwOp .acc cost new g s.dummiesOn)) := by
  have hstep (u : State) := rmwOp_acc_spec cost new g u (g { u with a := new u.a } u.a (new u.a))
    (fun r => (hg r).only) fun _ ht => (hg (new u.a)).cpu_congr ht u.a
  exact (hstep s).endAlike hdma (hstep s.dummiesOn) ((hg (new s.a)).dummiesOn { s with a := new s.a } s.a)

theorem impliedOp_endAlike {cost : Nat} {f : State → State}
    (hf : OfRegisters (fun u _ => f u) := by
      exact ⟨fun _ _ => ⟨rfl, rfl, rfl, rfl, rfl, rfl, rfl⟩, fun _ _ => rfl, fun _ _ => rfl⟩) :
    EndAlike s.dummiesOn (.next (impliedOp cost f s)) (.next (impliedOp cost f s.dummiesOn)) := by
  have hstep (u : State) := impliedOp_spec cost f u (f u) hf.only fun _ ht => hf.cpu_congr ht 0
  exact (hstep s).endAlike hdma (hstep s.dummiesOn) (hf.dummiesOn s 0)

theorem branchOp_endAlike (cond : Bool) (off : Byte) :
    EndAlike s.dummiesOn (.next (branchOp cond off s)) (.next (branchOp cond off s.dummiesOn)) := by
  cases cond with
  | false => exact (branchOp_false_spec off s).endAlike hdma (branchOp_false_spec off s.dummiesOn)
  | true => exact (branchOp_true_spec off s).endAlike hdma (branchOp_true_spec off s.dummiesOn)

theorem jmpInd_endAlike (w : Addr) : EndAlike s.dummiesOn (execJmpInd w s) (execJmpInd w s.dummiesOn) := by
  obtain ⟨lo, hi, hlo, hhi, hstep⟩ := jmpInd_spec s w
  obtain ⟨lo', hi', hlo', hhi', hstep'⟩ := jmpInd_spec s.dummiesOn w
  refine .next fun hheld => ?_
  obtain ⟨b, hb⟩ := hheld.of_accessed hstep'.accessed (d := .read) (a := w) (by simp)
  obtain ⟨c, hc⟩ := hheld.of_accessed hstep'.accessed (d := .read) (a := indirectHigh w) (by simp)
  rw [hlo' b hb, hhi' c hc, ← hlo b hb, ← hhi c hc] at hstep'
  exact hstep.agree hdma hstep'

theorem jsr_endAlike (w : Addr) : EndAlike s.dummiesOn (execJsr w s) (execJsr w s.dummiesOn) := by
  obtain ⟨hi, hhi, hstep⟩ := jsr_spec s w
  obtain ⟨hi', hhi', hstep'⟩ := jsr_spec s.dummiesOn w
  refine .next fun hheld => ?_
  have hpc : ∃ b, s.heldByte s.pc = some b :=
    hheld.of_accessed hstep'.accessed (d := .read) (by simp [State.dummiesOn])
  obtain ⟨b, hb⟩ := withLink_held hpc
  rw [hhi' b hb, ← hhi b hb] at hstep'
  exact hstep.agree hdma hstep'

theorem brk_endAlike : EndAlike s.dummiesOn (exec .brk s) (exec .brk s.dummiesOn) := by
  obtain ⟨t, ht, hentry⟩ := execBrk_entry s
  obtain ⟨t', ht', hentry'⟩ := execBrk_entry s.dummiesOn
  rw [ht, ht']
  exact .next (hentry.agree hdma hentry')

theorem dispatch_endAlike (k : Interrupt) :
    EndAlike s.dummiesOn (.next (s.dispatch k)) (.next (s.dummiesOn.dispatch k)) := by
  cases k with
  | nmi => exact .next ((dispatch_spec .nmi s).agree hdma (dispatch_spec .nmi s.dummiesOn))
  | irq => exact .next ((dispatch_spec .irq s).agree hdma (dispatch_spec .irq s.dummiesOn))

/-- An unofficial opcode under `Nop` makes no dummy access either (47_unofficial.md R232). -/
theorem noop_endAlike (cost : Nat) : EndAlike s.dummiesOn (.next (s.finish cost)) (.next (s.dummiesOn.finish cost)) :=
  ((Moves.refl s).whole cost rfl).endAlike hdma ((Moves.refl s.dummiesOn).whole cost rfl)

/-- Both runs are under one policy. -/
theorem unofficial_endAlike {op : Byte} {cost : Nat} {sem sem' : State → State}
    (hsem : EndAlike s.dummiesOn (.next (sem s)) (.next (sem' s.dummiesOn))) :
    EndAlike s.dummiesOn (unofficial op cost sem s) (unofficial op cost sem' s.dummiesOn) := by
  intro t t' ht ht'
  obtain ⟨hp, rfl⟩ | ⟨hp, rfl⟩ := unofficial_next ht <;> obtain ⟨hp', rfl⟩ | ⟨hp', rfl⟩ := unofficial_next ht'
  · exact noop_endAlike hdma cost _ _ rfl rfl
  · cases hp.symm.trans hp'
  · cases hp.symm.trans hp'
  · exact hsem _ _ rfl rfl

theorem unstable_endAlike {op : Byte} {cost : Nat} :
    EndAlike s.dummiesOn (unstable op cost s) (unstable op cost s.dummiesOn) := by
  intro t t' ht ht'
  obtain ⟨_, rfl⟩ := unstable_next ht
  obtain ⟨_, rfl⟩ := unstable_next ht'
  exact noop_endAlike hdma cost _ _ rfl rfl

/-- Every instruction ends alike with and without dummy accesses. -/
theorem exec_endAlike (i : Instr) : EndAlike s.dummiesOn (exec i s) (exec i s.dummiesOn) := by
  cases i with
  -- Class `read`: loads, arithmetic, logic, compares and bit tests.
  | ldaIndX | ldaZp | ldaImm | ldaAbs | ldaIndY | ldaZpX | ldaAbsY | ldaAbsX
  | ldxImm | ldxZp | ldxAbs | ldxZpY | ldxAbsY | ldyImm | ldyZp | ldyAbs | ldyZpX | ldyAbsX
  | andIndX | andZp | andImm | andAbs | andIndY | andZpX | andAbsY | andAbsX
  | oraIndX | oraZp | oraImm | oraAbs | oraIndY | oraZpX | oraAbsY | oraAbsX
  | eorIndX | eorZp | eorImm | eorAbs | eorIndY | eorZpX | eorAbsY | eorAbsX
  | adcIndX | adcZp | adcImm | adcAbs | adcIndY | adcZpX | adcAbsY | adcAbsX
  | sbcIndX | sbcZp | sbcImm | sbcAbs | sbcIndY | sbcZpX | sbcAbsY | sbcAbsX
  | cmpIndX | cmpZp | cmpImm | cmpAbs | cmpIndY | cmpZpX | cmpAbsY | cmpAbsX
  | cpxImm | cpxZp | cpxAbs | cpyImm | cpyZp | cpyAbs | bitZp | bitAbs =>
    exact readOp_endAlike hdma
  -- Class `none`: transfers, flag instructions, NOP; and the accumulator forms.
  | txa | tya | tax | tsx | inx | dex | tay | iny | dey | txs
  | clc | sec | cli | sei | cld | sed | clv | nop =>
    exact impliedOp_endAlike hdma
  | aslAcc | lsrAcc | rolAcc | rorAcc => exact rmwOp_acc_endAlike hdma
  -- Classes `write` and `rmw`.
  | staIndX | staZp | staAbs | staIndY | staZpX | staAbsY | staAbsX
  | stxZp | stxAbs | stxZpY | styZp | styAbs | styZpX =>
    exact writeOp_endAlike hdma
  | incZp | incAbs | incZpX | incAbsX | decZp | decAbs | decZpX | decAbsX
  | aslZp | aslAbs | aslZpX | aslAbsX | lsrZp | lsrAbs | lsrZpX | lsrAbsX
  | rolZp | rolAbs | rolZpX | rolAbsX | rorZp | rorAbs | rorZpX | rorAbsX =>
    exact rmwOp_endAlike hdma
  -- The stack and control.
  | pha | php => exact (pushOp_spec _ _ s).endAlike hdma (pushOp_spec _ _ s.dummiesOn)
  | pla => exact (pla_spec s).endAlike hdma (pla_spec s.dummiesOn)
  | plp => exact (plp_spec s).endAlike hdma (plp_spec s.dummiesOn)
  | bcc | bcs | beq | bne | bmi | bpl | bvc | bvs => exact branchOp_endAlike hdma _ _
  | jmpAbs w => exact (jmpAbs_spec s w).endAlike hdma (jmpAbs_spec s.dummiesOn w)
  | jmpInd w => exact jmpInd_endAlike hdma w
  | jsr w => exact jsr_endAlike hdma w
  | rts => exact (rts_spec s).endAlike hdma (rts_spec s.dummiesOn)
  | rti => exact (rti_spec s).endAlike hdma (rti_spec s.dummiesOn)
  | brk => exact brk_endAlike hdma
  -- The unofficial opcodes.
  | nop04 | nop0C | nop14 | nop1C | nop34 | nop3C | nop44 | nop54 | nop5C | nop64 | nop74 | nop7C | nop80 | nop82
  | nop89 | nopC2 | nopD4 | nopDC | nopE2 | nopF4 | nopFC
  | laxIndX | laxZp | laxAbs | laxIndY | laxZpY | laxAbsY | las | anc0B | anc2B | alr | arr | axs | sbcEB =>
    exact unofficial_endAlike hdma (readOp_endAlike hdma)
  | nop1A | nop3A | nop5A | nop7A | nopDA | nopFA => exact unofficial_endAlike hdma (impliedOp_endAlike hdma)
  | saxIndX | saxZp | saxAbs | saxZpY => exact unofficial_endAlike hdma (writeOp_endAlike hdma)
  | sloIndX | sloZp | sloAbs | sloIndY | sloZpX | sloAbsY | sloAbsX
  | rlaIndX | rlaZp | rlaAbs | rlaIndY | rlaZpX | rlaAbsY | rlaAbsX
  | sreIndX | sreZp | sreAbs | sreIndY | sreZpX | sreAbsY | sreAbsX
  | rraIndX | rraZp | rraAbs | rraIndY | rraZpX | rraAbsY | rraAbsX
  | iscIndX | iscZp | iscAbs | iscIndY | iscZpX | iscAbsY | iscAbsX
  | dcpIndX | dcpZp | dcpAbs | dcpIndY | dcpZpX | dcpAbsY | dcpAbsX =>
    exact unofficial_endAlike hdma (rmwOp_endAlike hdma)
  | ane | lxa | shaIndY | shaAbsY | shx | shy | tas => exact unstable_endAlike hdma
  | jam02 | jam12 | jam22 | jam32 | jam42 | jam52 | jam62 | jam72 | jam92 | jamB2 | jamD2 | jamF2 => exact jam_endAlike

end

/-! ## The step -/

/-- A fetch makes no dummy access. -/
theorem fetchN_dummiesOn (n : Nat) (s : State) : State.fetchN n s.dummiesOn = (State.fetchN n s).dummiesOn := by
  induction n generalizing s with
  | zero => rfl
  | succ n ih => exact ih s.fetch8

theorem fetchedBytes_dummiesOn (n : Nat) (s : State) : State.fetchedBytes n s.dummiesOn = State.fetchedBytes n s := by
  induction n generalizing s with
  | zero => rfl
  | succ n ih => exact congrArg (s.fetched :: ·) (ih s.fetch8)

theorem afterFetch_dummiesOn (s : State) : s.dummiesOn.afterFetch = s.afterFetch.dummiesOn := fetchN_dummiesOn _ s

theorem instruction_dummiesOn (s : State) : s.dummiesOn.instruction = s.instruction :=
  congrArg decode (fetchedBytes_dummiesOn _ s)

theorem fetchN_heldByte (n : Nat) (s : State) (a : Addr) : (State.fetchN n s).heldByte a = s.heldByte a := by
  induction n generalizing s with
  | zero => rfl
  | succ n ih => exact ih s.fetch8

/-- The instruction's own accesses are among the step's, and its fetch took no byte away. -/
theorem HeldAccesses.of_afterFetch {s t : State} {i : Instr} (h : HeldAccesses s t)
    (ht : exec i s.afterFetch = .next t) : HeldAccesses s.afterFetch t := by
  obtain ⟨early, hearly⟩ := (afterFetch_keeps s).trace
  obtain ⟨late, hlate⟩ := (exec_keeps ht).trace
  have hall : t.trace = (late ++ early) ++ s.trace := by rw [hlate, hearly, List.append_assoc]
  intro e he
  rw [newAccesses_of_trace hlate] at he
  rw [State.afterFetch, fetchN_heldByte]
  exact h e (by rw [newAccesses_of_trace hall]; exact List.mem_append_left _ he)

theorem runInstruction_endAlike {s : State} (hdma : s.dmaWritten = false) :
    EndAlike s.dummiesOn s.runInstruction s.dummiesOn.runInstruction := by
  obtain ⟨i, hi⟩ := instruction_isOk s
  intro t t' ht ht' hheld
  rw [State.runInstruction, hi] at ht
  rw [State.runInstruction, instruction_dummiesOn, hi] at ht'
  have hheld' := hheld.of_afterFetch ht'
  rw [afterFetch_dummiesOn] at ht' hheld'
  exact exec_endAlike ((fetchN_account _ s).2.trans hdma) i _ _ ht ht' hheld'

/-- Both runs take the same branch, since they agree on what decides it (60_exceptions.md R272, R273, R289). -/
theorem cpuStep_endAlike {s : State} (hdma : s.dmaWritten = false) :
    EndAlike s.dummiesOn s.cpuStep s.dummiesOn.cpuStep := by
  have hhalted : EndAlike s.dummiesOn (.next s) (.next s.dummiesOn) := .next fun _ => ⟨rfl, fun _ => rfl, rfl, rfl⟩
  unfold State.cpuStep
  exact .ite hhalted (.ite (dispatch_endAlike hdma .nmi)
    (.ite (dispatch_endAlike hdma .irq) (runInstruction_endAlike hdma)))

/-- With no input left the host makes no call. -/
theorem step_of_no_input {s : State} (h : s.inputs = []) : step s = s.cpuStep := by
  unfold step
  rw [h]

/-- Settles O30: the two steps take the same branch, and an instruction's two ends are told by one specification in
which the bytes loaded are held ones (`cpuStep_endAlike`). -/
theorem dummyAccessesIrrelevant : Obligations.DummyAccessesIrrelevant := by
  intro s t t' hinputs hdma _ ht ht' hheld
  rw [step_of_no_input hinputs] at ht
  have hon : s.dummiesOn.cpuStep = .next t' := (step_of_no_input (s := s.dummiesOn) hinputs).symm.trans ht'
  obtain ⟨hcpu, hmem, hcycles, hcost⟩ := cpuStep_endAlike hdma t t' ht hon hheld
  refine ⟨?_, hmem, hcycles, hcost⟩
  show ({ t'.cpu with cfg := s.cfg } : State) = t.cpu
  rw [hcpu, ← (cpuStep_keeps ht).1.cfg]
  rfl

end Sys2Proof.Machine
end

section
/-! O4: the spec's example words (40_addressing.md R101 to R111). -/

namespace Sys2Proof

/-- Settles O4: each word is the encoding of its instruction, so it decodes to it. -/
theorem decodeSpecWords : Obligations.DecodeSpecWords :=
  ⟨decode_encode_append (.ldaImm 0x10) [], decode_encode_append (.ldaZp 0x10) [],
    decode_encode_append (.ldaZpX 0xF0) [], decode_encode_append (.ldxZpY 0xFF) [],
    decode_encode_append (.ldaAbs 0x1234) [], decode_encode_append (.ldaIndX 0xFE) [],
    decode_encode_append (.ldaIndY 0x10) [], decode_encode_append (.ldaAbsX 0x12F0) [],
    decode_encode_append (.ldaAbsY 0xFFFF) [], decode_encode_append .clc [], decode_encode_append .aslAcc [],
    decode_encode_append (.jmpAbs 0xC000) [], decode_encode_append (.bcc 0x02) [],
    decode_encode_append (.staAbs 0x0200) [], decode_encode_append (.decAbs 0x0200) [],
    decode_encode_append (.sbcEB 0x03) []⟩

end Sys2Proof
end

section
/-! O31 and O32: loads and stores in every addressing mode (41_load_store.md R120 to R125). What a step of class `read`
or `write` does is said once in Laws/Shapes.lean; a list of forms has it as soon as each instruction is known to run one
operation of that class in its mode and at its cost. -/

namespace Sys2Proof.Machine

open Sys2Proof

/-- Forms that run `f` as an operation of class `read` (40_addressing.md R115). -/
theorem reads_of_readOp {s : State} {upd : Byte → State} {fs : List InstrForm} (f : State → Byte → State)
    (hupd : ∀ v, f s v = upd v)
    (hforms : ∀ F ∈ fs, F.instr.opcode = F.op ∧ F.mode ≠ .acc ∧ exec F.instr s = .next (readOp F.mode F.cost f s))
    (hf : OfRegisters f := by exact ⟨fun _ _ => ⟨rfl, rfl, rfl, rfl, rfl, rfl, rfl⟩, fun _ _ => rfl, fun _ _ => rfl⟩) :
    Reads s upd fs := by
  intro F hF
  obtain ⟨hop, hmode, hexec⟩ := hforms F hF
  have hcpu (t : State) (v : Byte) (ht : t.cpu = s.cpu) : (f t v).cpu = (upd v).cpu := by
    rw [hf.cpu_congr ht, hupd]
  exact ⟨hop, _, hexec, readOp_spec F.mode F.cost f s upd hmode hf.only hcpu⟩

/-- Forms that store one byte, as an operation of class `write` (40_addressing.md R115). -/
theorem stores_of_writeOp {s : State} {v : Byte} {fs : List InstrForm}
    (hforms : ∀ F ∈ fs, F.instr.opcode = F.op ∧ (∃ ea, s.effAddr F.mode = some ea) ∧
      exec F.instr s = .next (writeOp F.mode F.cost v s)) : Stores s v fs := by
  intro F hF
  obtain ⟨hop, ⟨ea, hea⟩, hexec⟩ := hforms F hF
  exact ⟨hop, _, hexec, writeOp_spec F.mode F.cost v s ea hea⟩

/-- Settles O31: every form of a load runs one operation of class `read`, which sets the register, and N and Z as
`setNZ_eq` says. -/
theorem loads : Obligations.Loads := by
  intro s b w
  refine ⟨reads_of_readOp (fun t v => ({ t with a := v } : State).setNZ v) (fun v => setNZ_eq _ v) ?_,
    reads_of_readOp (fun t v => ({ t with x := v } : State).setNZ v) (fun v => setNZ_eq _ v) ?_,
    reads_of_readOp (fun t v => ({ t with y := v } : State).setNZ v) (fun v => setNZ_eq _ v) ?_⟩
  all_goals
    intro F hF
    fin_cases hF <;> exact ⟨rfl, nofun, rfl⟩

/-- Settles O32: every form of a store runs one operation of class `write` on the register's byte, and its mode has an
effective address. -/
theorem storesWrite : Obligations.StoresWrite := by
  intro s b w
  refine ⟨stores_of_writeOp ?_, stores_of_writeOp ?_, stores_of_writeOp ?_⟩
  all_goals
    intro F hF
    fin_cases hF <;> exact ⟨rfl, ⟨_, rfl⟩, rfl⟩

end Sys2Proof.Machine
end

section
/-! O33, O34 and O35: transfers and stack operations (42_transfer_stack.md R130 to R139). The implied operation, the push
and the two pulls are each described whole by a lemma of their own (`impliedOp_spec`, `pushOp_spec`, `pla_spec`,
`plp_spec`). -/

namespace Sys2Proof.Machine

open Sys2Proof

/-- An instruction that runs `f` as an implied operation of class `none` (40_addressing.md R101): the registers and flags
become what `f` makes of them, since `f` does not see R116's dummy read. -/
theorem runs_of_impliedOp {op : Byte} {i : Instr} {cost : Nat} {s u : State} (f : State → State) (hu : f s = u)
    (hop : i.opcode = op := by rfl) (hexec : exec i s = .next (impliedOp cost f s) := by rfl)
    (hf : OfRegisters (fun t _ => f t) := by
      exact ⟨fun _ _ => ⟨rfl, rfl, rfl, rfl, rfl, rfl, rfl⟩, fun _ _ => rfl, fun _ _ => rfl⟩) :
    Runs op i s (fun t => RegisterStep s t cost u (s.dummies [(.read, s.pc)])) := by
  have hcpu (t : State) (ht : t.cpu = s.cpu) : (f t).cpu = u.cpu := hu ▸ hf.cpu_congr ht 0
  exact ⟨hop, _, hexec, impliedOp_spec cost f s u hf.only hcpu⟩

/-- Settles O33: each transfer is an implied operation that copies the register; all but TXS then set N and Z, as
`setNZ_eq` says. -/
theorem transfers : Obligations.Transfers := fun s =>
  ⟨runs_of_impliedOp (fun t => ({ t with x := t.a } : State).setNZ t.a) (setNZ_eq _ s.a),
    runs_of_impliedOp (fun t => ({ t with y := t.a } : State).setNZ t.a) (setNZ_eq _ s.a),
    runs_of_impliedOp (fun t => ({ t with a := t.x } : State).setNZ t.x) (setNZ_eq _ s.x),
    runs_of_impliedOp (fun t => ({ t with a := t.y } : State).setNZ t.y) (setNZ_eq _ s.y),
    runs_of_impliedOp (fun t => ({ t with x := t.sp } : State).setNZ t.sp) (setNZ_eq _ s.sp),
    runs_of_impliedOp (fun t => { t with sp := t.x }) rfl⟩

/-- Settles O34: PHA and PHP are one operation on two bytes, and PHP's byte is `PackP` with b = 1. -/
theorem pushes : Obligations.Pushes := fun s =>
  ⟨⟨rfl, _, rfl, pushOp_spec 3 s.a s⟩, ⟨rfl, _, rfl, pushOp_spec 3 (packP true s.p) s⟩, packP_statusByte true s.p⟩

/-- Settles O35: both pulls read the slot above S. -/
theorem pulls : Obligations.Pulls := fun s =>
  ⟨_, rfl, ⟨rfl, _, rfl, pla_spec s⟩, ⟨rfl, _, rfl, plp_spec s⟩⟩

end Sys2Proof.Machine
end

section
/-! O36 to O40: arithmetic, logic, comparison and bit test in every addressing mode (43_arith_logic.md R160 to R170).
Each runs one operation of class `read` on registers and flags (`reads_of_readOp`); what that operation makes of the
byte is said by Laws/Flags.lean. -/

namespace Sys2Proof.Machine

open Sys2Proof

/-- Settles O36: every form of ADC runs `addToA`, whose carry and overflow `addToA_eq` states in whole numbers. -/
theorem addWithCarry : Obligations.AddWithCarry := by
  intro s b w
  refine reads_of_readOp State.addToA (addToA_eq s) ?_
  intro F hF
  fin_cases hF <;> exact ⟨rfl, nofun, rfl⟩

/-- Settles O37: every form of SBC runs `subFromA`, ADC's adder on the complement, which subtracts (`subFromA_eq`). -/
theorem subtractWithBorrow : Obligations.SubtractWithBorrow := by
  intro s b w
  refine reads_of_readOp State.subFromA (subFromA_eq s) ?_
  intro F hF
  fin_cases hF <;> exact ⟨rfl, nofun, rfl⟩

/-- Settles O38: AND, ORA and EOR put the bitwise result in A, and set N and Z as `setNZ_eq` says. -/
theorem logic : Obligations.Logic := by
  intro s b w
  refine ⟨reads_of_readOp (fun t v => ({ t with a := t.a &&& v } : State).setNZ (t.a &&& v)) (fun _ => setNZ_eq _ _) ?_,
    reads_of_readOp (fun t v => ({ t with a := t.a ||| v } : State).setNZ (t.a ||| v)) (fun _ => setNZ_eq _ _) ?_,
    reads_of_readOp (fun t v => ({ t with a := t.a ^^^ v } : State).setNZ (t.a ^^^ v)) (fun _ => setNZ_eq _ _) ?_⟩
  all_goals
    intro F hF
    fin_cases hF <;> exact ⟨rfl, nofun, rfl⟩

/-- Settles O39: CMP, CPX and CPY are one comparison (`compare_eq`) of three registers. -/
theorem compares : Obligations.Compares := by
  intro s b w
  refine ⟨reads_of_readOp (fun t v => t.compare t.a v) (compare_eq s s.a) ?_,
    reads_of_readOp (fun t v => t.compare t.x v) (compare_eq s s.x) ?_,
    reads_of_readOp (fun t v => t.compare t.y v) (compare_eq s s.y) ?_⟩
  all_goals
    intro F hF
    fin_cases hF <;> exact ⟨rfl, nofun, rfl⟩

/-- What BIT makes of the flags, as `exec` computes them and as R170 states them. -/
theorem bitTest_flags (p : Flags) (a v : Byte) :
    ({ p with z := (a &&& v) == 0, n := v.getLsbD 7, v := v.getLsbD 6 } : Flags) =
      { p with z := decide (a &&& v = 0), n := v.msb, v := v.getLsbD 6 } := by
  rw [getLsbD_seven]; rfl

/-- Settles O40: BIT writes Z, N and V (`bitTest_flags`) and leaves A alone. -/
theorem bitTest : Obligations.BitTest := by
  intro s b w
  refine reads_of_readOp
    (fun t v => { t with p := { t.p with z := (t.a &&& v) == 0, n := v.getLsbD 7, v := v.getLsbD 6 } })
    (fun v => congrArg (fun p => { s with p := p }) (bitTest_flags s.p s.a v)) ?_
  intro F hF
  fin_cases hF <;> exact ⟨rfl, nofun, rfl⟩

end Sys2Proof.Machine
end

section
/-! O41, O42 and O43: increments, decrements, shifts and rotates (44_incdec_shift.md R180 to R189). The memory forms are
one operation of class `rmw` (`rmwOp_spec`), the accumulator forms the same operation on A (`rmwOp_acc_spec`), and the
index registers' forms are implied operations (`runs_of_impliedOp`). -/

namespace Sys2Proof.Machine

open Sys2Proof

/-- Forms that store `f` of the byte and run `g` after it, as an operation of class `rmw` (40_addressing.md R115). -/
theorem modifies_of_rmwOp {s : State} {new : Byte → Byte} {upd : State → Byte → State} {fs : List InstrForm}
    (f : Byte → Byte) (g : State → Byte → Byte → State) (hnew : ∀ v, f v = new v)
    (hupd : ∀ u v, g u v (new v) = upd u v)
    (hforms : ∀ F ∈ fs, F.instr.opcode = F.op ∧ (∃ ea, s.effAddr F.mode = some ea) ∧
      exec F.instr s = .next (rmwOp F.mode F.cost f g s))
    (hg : ∀ r, OfRegisters (fun t v => g t v r) := by
      exact fun _ => ⟨fun _ _ => ⟨rfl, rfl, rfl, rfl, rfl, rfl, rfl⟩, fun _ _ => rfl, fun _ _ => rfl⟩) :
    Modifies s new upd fs := by
  obtain rfl : f = new := funext hnew
  intro F hF
  obtain ⟨hop, ⟨ea, hea⟩, hexec⟩ := hforms F hF
  have hcpu (t u : State) (v : Byte) (ht : t.cpu = u.cpu) (_ : u.p = s.p) : (g t v (f v)).cpu = (upd u v).cpu := by
    rw [(hg (f v)).cpu_congr ht, hupd]
  exact ⟨hop, _, hexec, rmwOp_spec F.mode F.cost f g s upd ea hea (fun r => (hg r).only) hcpu⟩

/-- An accumulator form of such an operation: `f` of A goes to A, then `g` runs (40_addressing.md R100, R101). -/
theorem runs_of_rmwOp_acc {op : Byte} {i : Instr} {cost : Nat} {s u : State} {r : Byte} (f : Byte → Byte)
    (g : State → Byte → Byte → State) (hr : f s.a = r) (hu : g { s with a := r } s.a r = u)
    (hop : i.opcode = op := by rfl) (hexec : exec i s = .next (rmwOp .acc cost f g s) := by rfl)
    (hg : ∀ r, OfRegisters (fun t v => g t v r) := by
      exact fun _ => ⟨fun _ _ => ⟨rfl, rfl, rfl, rfl, rfl, rfl, rfl⟩, fun _ _ => rfl, fun _ _ => rfl⟩) :
    Runs op i s (fun t => RegisterStep s t cost u (s.dummies [(.read, s.pc)])) := by
  subst hr
  have hcpu (t : State) (ht : t.cpu = ({ s with a := f s.a } : State).cpu) : (g t s.a (f s.a)).cpu = u.cpu :=
    hu ▸ (hg (f s.a)).cpu_congr ht s.a
  exact ⟨hop, _, hexec, rmwOp_acc_spec cost f g s u (fun r => (hg r).only) hcpu⟩

/-- What a shift of `v` to `r` makes of the flags, as the model's shifts compute them: C is the bit `k` of `v` that was
shifted out. -/
def State.shiftedOut (k : Nat) (s : State) (v r : Byte) : State := (s.setC (v.getLsbD k)).setNZ r

theorem shiftedOut_eq (k : Nat) (s : State) (v r : Byte) :
    s.shiftedOut k v r = { s with p := { nz s.p r with c := v.getLsbD k } } := setNZ_eq (s.setC (v.getLsbD k)) r

/-- Settles O41: every form of INC and DEC runs one operation of class `rmw`, which then sets N and Z from the new byte
as `setNZ_eq` says. -/
theorem memoryIncDec : Obligations.MemoryIncDec := by
  intro s b w
  refine ⟨modifies_of_rmwOp (fun v => v + 1) (fun t _ r => t.setNZ r) (fun _ => rfl) (fun u _ => setNZ_eq u _) ?_,
    modifies_of_rmwOp (fun v => v - 1) (fun t _ r => t.setNZ r) (fun _ => rfl) (fun u _ => setNZ_eq u _) ?_⟩
  all_goals
    intro F hF
    fin_cases hF <;> exact ⟨rfl, ⟨_, rfl⟩, rfl⟩

/-- Settles O42: each is an implied operation on its index register, which sets N and Z as `setNZ_eq` says. -/
theorem indexIncDec : Obligations.IndexIncDec := fun s =>
  ⟨runs_of_impliedOp (fun t => ({ t with x := t.x + 1 } : State).setNZ (t.x + 1)) (setNZ_eq _ (s.x + 1)),
    runs_of_impliedOp (fun t => ({ t with y := t.y + 1 } : State).setNZ (t.y + 1)) (setNZ_eq _ (s.y + 1)),
    runs_of_impliedOp (fun t => ({ t with x := t.x - 1 } : State).setNZ (t.x - 1)) (setNZ_eq _ (s.x - 1)),
    runs_of_impliedOp (fun t => ({ t with y := t.y - 1 } : State).setNZ (t.y - 1)) (setNZ_eq _ (s.y - 1))⟩

/-- Settles O43: ASL and ROL send bit 7 to C, LSR and ROR bit 0 (`shiftedOut_eq`); the result is the shifted byte, for a
rotate with the old carry in the free bit (`rolByte_eq`, `rorByte_eq`). -/
theorem shifts : Obligations.Shifts := by
  intro s b w
  refine ⟨modifies_of_rmwOp (fun v => v <<< 1) (State.shiftedOut 7) (fun _ => rfl) (shiftedOut_eq 7 · · _) ?_,
    runs_of_rmwOp_acc (fun v => v <<< 1) (State.shiftedOut 7) rfl (shiftedOut_eq 7 _ s.a _),
    modifies_of_rmwOp (fun v => v >>> 1) (State.shiftedOut 0) (fun _ => rfl) (shiftedOut_eq 0 · · _) ?_,
    runs_of_rmwOp_acc (fun v => v >>> 1) (State.shiftedOut 0) rfl (shiftedOut_eq 0 _ s.a _),
    modifies_of_rmwOp (fun v => rolByte v s.p.c) (State.shiftedOut 7) (rolByte_eq · s.p) (shiftedOut_eq 7 · · _) ?_,
    runs_of_rmwOp_acc (fun v => rolByte v s.p.c) (State.shiftedOut 7) (rolByte_eq s.a s.p) (shiftedOut_eq 7 _ s.a _),
    modifies_of_rmwOp (fun v => rorByte v s.p.c) (State.shiftedOut 0) (rorByte_eq · s.p) (shiftedOut_eq 0 · · _) ?_,
    runs_of_rmwOp_acc (fun v => rorByte v s.p.c) (State.shiftedOut 0) (rorByte_eq s.a s.p) (shiftedOut_eq 0 _ s.a _)⟩
  all_goals
    intro F hF
    fin_cases hF <;> exact ⟨rfl, ⟨_, rfl⟩, rfl⟩

end Sys2Proof.Machine
end

section
/-! O44 to O49: jumps, calls, returns, BRK and branches (45_control.md R200 to R213). Each instruction's step is told
whole by a lemma of its own (`jmpAbs_spec`, `jmpInd_spec`, `jsr_spec`, `rts_spec`, `rti_spec`, `execBrk_entry`,
`branchOp_false_spec`, `branchOp_true_spec`). Left to say here are the pages in whole numbers, and that the bytes of a
target are those the step's last reads answered. -/

namespace Sys2Proof.Machine

open Sys2Proof

/-! ## Pages in whole numbers (40_addressing.md R113, R114) -/

theorem hiByte_toNat (w : Addr) : (hiByte w).toNat = w.toNat / 256 := by
  have hlt := w.isLt
  rw [hiByte, BitVec.toNat_setWidth, BitVec.toNat_ushiftRight, Nat.shiftRight_eq_div_pow]
  omega

theorem loByte_toNat (w : Addr) : (loByte w).toNat = w.toNat % 256 := BitVec.toNat_setWidth 8 w

theorem pageCross_iff {a b : Addr} : pageCross a b = true ↔ a.toNat / 256 ≠ b.toNat / 256 := by
  rw [pageCross, bne_iff_ne, ne_eq, ← BitVec.toNat_inj, hiByte_toNat, hiByte_toNat]

/-- The high byte of an indirect target stands one past the low byte, in the pointer's page. -/
theorem indirectHigh_toNat (w : Addr) : (indirectHigh w).toNat = w.toNat / 256 * 256 + (w.toNat + 1) % 256 := by
  have hlow : (w + 1).toNat % 256 = (w.toNat + 1) % 256 := by bv_omega
  rw [indirectHigh, inPageOf, word_toNat, hiByte_toNat, loByte_toNat, hlow]

/-! ## Jumps and returns -/

theorem word_inj {hi hi' lo lo' : Byte} (h : word hi lo = word hi' lo') : hi = hi' ∧ lo = lo' :=
  ⟨by rw [← hiByte_word hi lo, h, hiByte_word], by rw [← loByte_word hi lo, h, loByte_word]⟩

theorem WholeStep.pc_eq {s t u : State} {c : Nat} {ws : List Host.Cell} {l : List Access1}
    (h : WholeStep s t c u ws l) : t.pc = u.pc := by
  obtain ⟨hcpu, _⟩ := h
  show t.cpu.pc = u.cpu.pc
  rw [hcpu]

/-- Settles O44: JMP indirect goes where `jmpInd_spec` says, and the bytes of that target are the two its reads
answered, since PC is the word of both. -/
theorem jumps : Obligations.Jumps := by
  intro s w
  refine ⟨⟨rfl, _, rfl, jmpAbs_spec s w⟩, rfl, _, rfl, ?_⟩
  obtain ⟨lo, hi, hlo, hhi, hstep⟩ := jmpInd_spec s w
  obtain ⟨rfl, rfl⟩ := word_inj hstep.pc_eq
  exact ⟨_, _, indirectHigh w, indirectHigh_toNat w, rfl, hlo, hhi, hstep⟩

/-- Settles O45: the high byte of the target that `jsr_spec` speaks of is the byte the fetch after the pushes answered,
since PC holds it. -/
theorem jumpToSubroutine : Obligations.JumpToSubroutine := by
  intro s w
  refine ⟨rfl, _, rfl, ?_⟩
  obtain ⟨hi, hhi, hstep⟩ := jsr_spec s w
  obtain ⟨rfl, _⟩ := word_inj hstep.pc_eq
  refine ⟨_, ?_, hhi, hstep⟩
  rw [← pushLink_pc s]
  rfl

/-- Settles O46: the link pulled is the word in the two slots above S (`pulledLink_eq`). -/
theorem returnFromSubroutine : Obligations.ReturnFromSubroutine := fun s =>
  ⟨s.pulledLink, pulledLink_eq s, rfl, _, rfl, rts_spec s⟩

/-- Settles O47: the three slots above S hold the status byte and PC (`rti_spec`). -/
theorem returnFromInterrupt : Obligations.ReturnFromInterrupt := fun s => ⟨rfl, _, rfl, rti_spec s⟩

/-- Settles O48: BRK skips its padding byte and takes the exception (`execBrk_entry`). -/
theorem breakTakesException : Obligations.Break := fun s => ⟨rfl, execBrk_entry s⟩

/-! ## Branches -/

/-- An instruction that runs `branchOp` on `cond`: not taken, or taken within the page, or taken into another page
(45_control.md R205). -/
theorem runs_of_branchOp {op : Byte} {i : Instr} {cond : Bool} {off : Byte} {s : State} {target : Addr}
    (htarget : target = s.pc + off.signExtend 16) (hop : i.opcode = op)
    (hexec : exec i s = .next (branchOp cond off s)) :
    Runs op i s (fun t =>
      (cond = false → RegisterStep s t 2 s []) ∧
      (cond = true → s.pc.toNat / 256 = target.toNat / 256 →
        RegisterStep s t 3 { s with pc := target } (s.dummies [(.read, s.pc)])) ∧
      (cond = true → s.pc.toNat / 256 ≠ target.toNat / 256 →
        RegisterStep s t 4 { s with pc := target } (s.dummies [(.read, s.pc), (.read, inPageOf s.pc target)]))) := by
  subst htarget
  refine ⟨hop, _, hexec, ?_, ?_, ?_⟩
  · rintro rfl
    exact branchOp_false_spec off s
  · rintro rfl hpage
    have hcross : pageCross s.pc (s.pc + sext16 off) = false :=
      Bool.eq_false_iff.mpr (mt pageCross_iff.mp (not_not_intro hpage))
    have hstep := branchOp_true_spec off s
    rwa [hcross] at hstep
  · rintro rfl hpage
    have hcross : pageCross s.pc (s.pc + sext16 off) = true := pageCross_iff.mpr hpage
    have hstep := branchOp_true_spec off s
    rwa [hcross] at hstep

/-- Settles O49: each branch runs `branchOp` on its flag. -/
theorem branches : Obligations.Branches := by
  intro s off target htarget f hf
  fin_cases hf <;> exact runs_of_branchOp htarget rfl rfl

end Sys2Proof.Machine
end

section
/-! O50: flag instructions and NOP (46_flags_misc.md R220 to R227). Each is an implied operation
(`runs_of_impliedOp`). -/

namespace Sys2Proof.Machine

open Sys2Proof

/-- Settles O50: each flag instruction is an implied operation that gives its one flag a constant; NOP is the implied
operation that keeps the state. -/
theorem flagInstructions : Obligations.FlagInstructions := fun _ =>
  ⟨runs_of_impliedOp (fun t => t.setC false) rfl, runs_of_impliedOp (fun t => t.setC true) rfl,
    runs_of_impliedOp (fun t => t.setI false) rfl, runs_of_impliedOp (fun t => t.setI true) rfl,
    runs_of_impliedOp (fun t => t.setD false) rfl, runs_of_impliedOp (fun t => t.setD true) rfl,
    runs_of_impliedOp (fun t => t.setV false) rfl, runs_of_impliedOp (fun t => t) rfl⟩

end Sys2Proof.Machine
end

section
/-! O19, O56, O57 and O18: what an unofficial opcode does under each policy (47_unofficial.md R230 to R233, R254). Said
once for every instruction: its class in the opcode table is the one its meaning is written in (`exec_byClass`). -/

namespace Sys2Proof.Machine

open Sys2Proof

/-- The ways an instruction with this row and opcode byte ends, by the class its row gives it (R233): an official one
goes on; any other is subject to the policy, with its row's base cost where it is a no-op. -/
inductive ByClass (r : Row) (op : Byte) (s : State) : Result → Prop
  | official (t : State) (hcls : r.cls = .official := by simp) : ByClass r op s (.next t)
  | stable (cost : Nat) (sem : State → State) (hrow : r.cls = .stable ∧ r.cycles = some cost := by simp) :
      ByClass r op s (unofficial op cost sem s)
  | unstable (cost : Nat) (hrow : r.cls = .unstable ∧ r.cycles = some cost := by simp) :
      ByClass r op s (unstable op cost s)
  | jam (hcls : r.cls = .jam := by simp) : ByClass r op s (jam op s)

/-- The meaning of every instruction is of its row's class. -/
theorem exec_byClass (i : Instr) (s : State) : ByClass i.row i.opcode s (exec i s) := by
  cases i with
  -- The official opcodes.
  | ldaIndX | ldaZp | ldaImm | ldaAbs | ldaIndY | ldaZpX | ldaAbsY | ldaAbsX
  | ldxImm | ldxZp | ldxAbs | ldxZpY | ldxAbsY | ldyImm | ldyZp | ldyAbs | ldyZpX | ldyAbsX
  | andIndX | andZp | andImm | andAbs | andIndY | andZpX | andAbsY | andAbsX
  | oraIndX | oraZp | oraImm | oraAbs | oraIndY | oraZpX | oraAbsY | oraAbsX
  | eorIndX | eorZp | eorImm | eorAbs | eorIndY | eorZpX | eorAbsY | eorAbsX
  | adcIndX | adcZp | adcImm | adcAbs | adcIndY | adcZpX | adcAbsY | adcAbsX
  | sbcIndX | sbcZp | sbcImm | sbcAbs | sbcIndY | sbcZpX | sbcAbsY | sbcAbsX
  | cmpIndX | cmpZp | cmpImm | cmpAbs | cmpIndY | cmpZpX | cmpAbsY | cmpAbsX
  | cpxImm | cpxZp | cpxAbs | cpyImm | cpyZp | cpyAbs | bitZp | bitAbs
  | txa | tya | tax | tsx | inx | dex | tay | iny | dey | txs
  | clc | sec | cli | sei | cld | sed | clv | nop
  | staIndX | staZp | staAbs | staIndY | staZpX | staAbsY | staAbsX
  | stxZp | stxAbs | stxZpY | styZp | styAbs | styZpX
  | incZp | incAbs | incZpX | incAbsX | decZp | decAbs | decZpX | decAbsX
  | aslZp | aslAbs | aslZpX | aslAbsX | lsrZp | lsrAbs | lsrZpX | lsrAbsX
  | rolZp | rolAbs | rolZpX | rolAbsX | rorZp | rorAbs | rorZpX | rorAbsX
  | aslAcc | lsrAcc | rolAcc | rorAcc
  | pha | php | pla | plp | bcc | bcs | beq | bne | bmi | bpl | bvc | bvs
  | jmpAbs | jmpInd | jsr | rts | rti | brk =>
    exact .official _
  -- The unofficial opcodes: stable, unstable and JAM.
  | nop04 | nop0C | nop14 | nop1C | nop34 | nop3C | nop44 | nop54 | nop5C | nop64 | nop74 | nop7C | nop80 | nop82
  | nop89 | nopC2 | nopD4 | nopDC | nopE2 | nopF4 | nopFC | nop1A | nop3A | nop5A | nop7A | nopDA | nopFA
  | laxIndX | laxZp | laxAbs | laxIndY | laxZpY | laxAbsY | las | anc0B | anc2B | alr | arr | axs | sbcEB
  | saxIndX | saxZp | saxAbs | saxZpY
  | sloIndX | sloZp | sloAbs | sloIndY | sloZpX | sloAbsY | sloAbsX
  | rlaIndX | rlaZp | rlaAbs | rlaIndY | rlaZpX | rlaAbsY | rlaAbsX
  | sreIndX | sreZp | sreAbs | sreIndY | sreZpX | sreAbsY | sreAbsX
  | rraIndX | rraZp | rraAbs | rraIndY | rraZpX | rraAbsY | rraAbsX
  | iscIndX | iscZp | iscAbs | iscIndY | iscZpX | iscAbsY | iscAbsX
  | dcpIndX | dcpZp | dcpAbs | dcpIndY | dcpZpX | dcpAbsY | dcpAbsX =>
    exact .stable _ _
  | ane | lxa | shaIndY | shaAbsY | shx | shy | tas => exact .unstable _
  | jam02 | jam12 | jam22 | jam32 | jam42 | jam52 | jam62 | jam72 | jam92 | jamB2 | jamD2 | jamF2 => exact .jam

/-! ## Each class under each policy -/

theorem unofficial_refused_iff {op : Byte} {cost : Nat} {sem : State → State} {s : State} {r : Refusal} :
    unofficial op cost sem s = .refused r ↔ r = .unofficial op ∧ s.cfg.policy = .refuse := by
  unfold unofficial
  cases s.cfg.policy <;> simp [eq_comm]

theorem unstable_refused_iff {op : Byte} {cost : Nat} {s : State} {r : Refusal} :
    unstable op cost s = .refused r ↔ r = .unofficial op ∧ s.cfg.policy ≠ .nop := by
  unfold unstable
  cases s.cfg.policy <;> simp [eq_comm]

theorem jam_refused_iff {op : Byte} {s : State} {r : Refusal} :
    jam op s = .refused r ↔ r = .unofficial op ∧ s.cfg.policy ≠ .semantic := by
  unfold jam
  cases s.cfg.policy <;> simp [eq_comm]

theorem unofficial_of_nop {op : Byte} {cost : Nat} {sem : State → State} {s : State} (h : s.cfg.policy = .nop) :
    unofficial op cost sem s = .next (s.finish cost) := by
  rw [unofficial, h]

theorem unstable_of_nop {op : Byte} {cost : Nat} {s : State} (h : s.cfg.policy = .nop) :
    unstable op cost s = .next (s.finish cost) := by
  rw [unstable, h]

theorem unofficial_of_semantic {op : Byte} {cost : Nat} {sem : State → State} {s : State}
    (h : s.cfg.policy = .semantic) : unofficial op cost sem s = .next (sem s) := by
  rw [unofficial, h]

theorem jam_of_semantic {op : Byte} {s : State} (h : s.cfg.policy = .semantic) :
    jam op s = .next { s.dummyRead s.pc with halted := true, lastCost := none } := by
  rw [jam, h]

/-! ## The obligations -/

/-- Settles O19: by the instruction's class (`exec_byClass`), each of which is refused under its own policies. -/
theorem refusedExactly : Obligations.RefusedExactly := by
  intro i s r
  have hclass := exec_byClass i s
  generalize exec i s = result at hclass ⊢
  cases hclass with
  | official t hcls => simp [hcls]
  | stable cost sem hrow => simp [unofficial_refused_iff, hrow.1]
  | unstable cost hrow =>
    rw [unstable_refused_iff, hrow.1]
    cases s.cfg.policy <;> simp
  | jam hcls =>
    rw [jam_refused_iff, hcls]
    cases s.cfg.policy <;> simp

/-- Settles O56: JAM under Semantic makes the dummy read of its class and sets `halted`. -/
theorem jamHalts : Obligations.JamHalts := by
  intro s hpol f hf
  have hread := dummyRead_moves s s.pc
  have hjam := hread.congr (t' := { s.dummyRead s.pc with halted := true, lastCost := none }) rfl rfl rfl rfl rfl
  have hcpu : ({ s.dummyRead s.pc with halted := true, lastCost := none } : State).cpu =
      ({ s with halted := true } : State).cpu := by
    obtain ⟨_, _, _, hsame⟩ := dummyRead_sameButBus s s.pc
    rw [hsame]
    rfl
  fin_cases hf <;>
    exact ⟨rfl, _, jam_of_semantic hpol, hcpu, hjam.written, rfl, hjam.cycles, hjam.dmaWritten, hjam.accessed⟩

/-- JSR alone has a byte that is not fetched ahead of it, and JSR is official (45_control.md R201). -/
theorem fetchedFirst_of_unofficial {i : Instr} (h : i.row.cls ≠ .official) :
    fetchedFirst i.opcode = i.row.mode.length := by
  have hjsr : i.opcode ≠ 0x20 := fun hop => h (by rw [Instr.row, hop]; rfl)
  rw [fetchedFirst, if_neg hjsr, instrLength, Instr.row, opcodeRow_mode_length]

/-- Settles O57: under Nop a stable or unstable opcode only ends its step, with its row's base cost. -/
theorem nopPolicy : Obligations.NopPolicy := by
  intro i s hpol
  have hnoop (cost : Nat) : RegisterStep s (s.finish cost) cost s [] := (Moves.refl s).whole cost rfl
  refine ⟨fun hcls => ⟨fetchedFirst_of_unofficial ?_, ?_⟩, fun hjam => ?_⟩
  · rcases hcls with h | h <;> simp [h]
  · have hclass := exec_byClass i s
    generalize exec i s = result at hclass ⊢
    cases hclass with
    | official t hoff => simp [hoff] at hcls
    | stable cost sem hrow => exact ⟨cost, _, hrow.2, unofficial_of_nop hpol, hnoop cost⟩
    | unstable cost hrow => exact ⟨cost, _, hrow.2, unstable_of_nop hpol, hnoop cost⟩
    | jam hjam => simp [hjam] at hcls
  · exact (refusedExactly i s _).mpr ⟨rfl, .inr (.inl ⟨hpol, hjam⟩)⟩

/-- No instruction faults (60_exceptions.md R282). -/
theorem exec_noFault (i : Instr) (s : State) : NoFault (exec i s) := by
  intro f
  have hclass := exec_byClass i s
  generalize exec i s = result at hclass ⊢
  cases hclass with
  | official => exact nofun
  | stable =>
    unfold unofficial
    split <;> exact nofun
  | unstable =>
    unfold unstable
    split <;> exact nofun
  | jam =>
    unfold jam
    split <;> exact nofun

/-- The CPU's step does not fault: every byte string of the fetched length decodes (30_encoding.md R81). -/
theorem cpuStep_noFault (s : State) : NoFault s.cpuStep := by
  obtain ⟨_, hstep⟩ | ⟨_, k, hstep⟩ | ⟨_, i, _, hstep⟩ := cpuStep_cases s <;> rw [hstep]
  · exact nofun
  · exact nofun
  · exact exec_noFault i _

/-- Settles O18: the step is the CPU's own or one of the host's calls, which all go on (`step_cases`). -/
theorem stepNeverFaults : Obligations.StepNeverFaults := by
  intro s
  obtain ⟨u, _, ⟨_, hstep⟩ | ⟨_, hstep⟩ | ⟨d, _, hstep⟩ | ⟨k, _, hstep⟩⟩ := step_cases s <;> rw [hstep]
  · exact cpuStep_noFault u
  · exact nofun
  · exact nofun
  · exact nofun

end Sys2Proof.Machine
end

section
/-! O51 to O55: the stable unofficial opcodes under Semantic (47_unofficial.md R233 to R248). Each then runs its
operation (`unofficial_of_semantic`), which is of class `read`, `write`, `rmw` or `none`, and what such an operation
does is said by `reads_of_readOp`, `stores_of_writeOp`, `modifies_of_rmwOp` and `runs_of_impliedOp`. Left to say here
is what each makes of the registers and flags. -/

namespace Sys2Proof.Machine

open Sys2Proof

/-! ## Operations of class `read` -/

/-- ANC copies N of the new A to C (R243). -/
theorem anc_eq (s : State) (v : Byte) :
    (({ s with a := s.a &&& v } : State).setNZ (s.a &&& v)).setC ((s.a &&& v).getLsbD 7) =
      { s with a := s.a &&& v, p := { nz s.p (s.a &&& v) with c := (s.a &&& v).msb } } := by
  rw [setNZ_eq, getLsbD_seven]
  rfl

/-- ARR's C and V come from bits 6 and 5 of the rotated byte `r` (R245). -/
def State.arrResult (s : State) (r : Byte) : State :=
  ((({ s with a := r } : State).setNZ r).setC (r.getLsbD 6)).setV (r.getLsbD 6 ^^ r.getLsbD 5)

theorem arrResult_eq (s : State) (r : Byte) : s.arrResult r =
    { s with a := r, p := { nz s.p r with c := r.getLsbD 6, v := r.getLsbD 6 ^^ r.getLsbD 5 } } := by
  unfold State.arrResult
  rw [setNZ_eq]
  rfl

/-- Settles O55: ANC, ALR, ARR and AXS set N and Z as `setNZ_eq` says; ARR's byte is the rotate's (`rorByte_eq`); 0xEB is
SBC (`subFromA_eq`). -/
theorem unofficialImmediates : Obligations.UnofficialImmediates := by
  intro s b hpol
  refine ⟨reads_of_readOp
      (fun t v => (({ t with a := t.a &&& v } : State).setNZ (t.a &&& v)).setC ((t.a &&& v).getLsbD 7)) (anc_eq s) ?_,
    reads_of_readOp
      (fun t v => ({ t.setC ((t.a &&& v).getLsbD 0) with a := (t.a &&& v) >>> 1 } : State).setNZ ((t.a &&& v) >>> 1))
      (fun _ => setNZ_eq _ _) ?_,
    reads_of_readOp (fun t v => t.arrResult (arrByte t.a v t.p.c))
      (fun v => by rw [arrResult_eq, arrByte, rorByte_eq]) ?_,
    reads_of_readOp
      (fun t v => ({ t.setC (decide (v.toNat ≤ (t.a &&& t.x).toNat)) with x := (t.a &&& t.x) - v } : State).setNZ
        ((t.a &&& t.x) - v)) (fun _ => setNZ_eq _ _) ?_,
    reads_of_readOp State.subFromA (subFromA_eq s) ?_⟩
  all_goals
    intro F hF
    fin_cases hF <;> exact ⟨rfl, nofun, unofficial_of_semantic hpol⟩

/-- Settles O51: a NOP with an operand reads it and does nothing with the byte; the others are NOP. -/
theorem unofficialNops : Obligations.UnofficialNops := by
  intro s b w hpol
  refine ⟨reads_of_readOp (fun t _ => t) (fun _ => rfl) ?_, ?_⟩
  · intro F hF
    fin_cases hF <;> exact ⟨rfl, nofun, unofficial_of_semantic hpol⟩
  · intro f hf
    fin_cases hf <;> exact runs_of_impliedOp (fun t => t) rfl rfl (unofficial_of_semantic hpol)

/-- Settles O53: LAX and LAS are operations of class `read` that set N and Z as `setNZ_eq` says, SAX one of class
`write`. -/
theorem unofficialLoadsStores : Obligations.UnofficialLoadsStores := by
  intro s b w hpol
  refine ⟨reads_of_readOp (fun t v => ({ t with a := v, x := v } : State).setNZ v) (fun v => setNZ_eq _ v) ?_,
    reads_of_readOp
      (fun t v => ({ t with a := v &&& t.sp, x := v &&& t.sp, sp := v &&& t.sp } : State).setNZ (v &&& t.sp))
      (fun _ => setNZ_eq _ _) ?_, stores_of_writeOp ?_⟩
  · intro F hF
    fin_cases hF <;> exact ⟨rfl, nofun, unofficial_of_semantic hpol⟩
  · intro F hF
    fin_cases hF
    exact ⟨rfl, nofun, unofficial_of_semantic hpol⟩
  · intro F hF
    fin_cases hF <;> exact ⟨rfl, ⟨_, rfl⟩, unofficial_of_semantic hpol⟩

/-! ## Operations of class `rmw` -/

/-- Settles O52: each combines the shifted byte with A, and sets N and Z as `setNZ_eq` says; RRA adds it with the carry
that the rotate gave (`addToA_eq`). -/
theorem unofficialShifts : Obligations.UnofficialShifts := by
  intro s b w hpol
  refine ⟨modifies_of_rmwOp (fun v => v <<< 1)
      (fun t v r => ({ t.setC (v.getLsbD 7) with a := t.a ||| r } : State).setNZ (t.a ||| r))
      (fun _ => rfl) (fun _ _ => setNZ_eq _ _) ?_,
    modifies_of_rmwOp (fun v => rolByte v s.p.c)
      (fun t v r => ({ t.setC (v.getLsbD 7) with a := t.a &&& r } : State).setNZ (t.a &&& r))
      (rolByte_eq · s.p) (fun _ _ => setNZ_eq _ _) ?_,
    modifies_of_rmwOp (fun v => v >>> 1)
      (fun t v r => ({ t.setC (v.getLsbD 0) with a := t.a ^^^ r } : State).setNZ (t.a ^^^ r))
      (fun _ => rfl) (fun _ _ => setNZ_eq _ _) ?_,
    modifies_of_rmwOp (fun v => rorByte v s.p.c) (fun t v r => (t.setC (v.getLsbD 0)).addToA r)
      (rorByte_eq · s.p) (fun _ _ => addToA_eq _ _) ?_⟩
  all_goals
    intro F hF
    fin_cases hF <;> exact ⟨rfl, ⟨_, rfl⟩, unofficial_of_semantic hpol⟩

/-- Settles O54: DCP compares A with the new byte (`compare_eq`), ISC subtracts it from A (`subFromA_eq`). -/
theorem unofficialDcpIsc : Obligations.UnofficialDcpIsc := by
  intro s b w hpol
  refine ⟨modifies_of_rmwOp (fun v => v - 1) (fun t _ r => t.compare t.a r) (fun _ => rfl)
      (fun u _ => compare_eq u u.a _) ?_,
    modifies_of_rmwOp (fun v => v + 1) (fun t _ r => t.subFromA r) (fun _ => rfl) (fun u _ => subFromA_eq u _) ?_⟩
  all_goals
    intro F hF
    fin_cases hF <;> exact ⟨rfl, ⟨_, rfl⟩, unofficial_of_semantic hpol⟩

end Sys2Proof.Machine
end

section
/-! O8, O9, O7 and O29: the step boundary, the halted CPU, and interrupts (60_exceptions.md R272 to R289). Whatever the
host does at a boundary without a call, the CPU's own step follows, and it is a dispatch where an interrupt is taken
(`cpuStep_of_nmi`, `cpuStep_of_irq`); RTI pulls what an exception entry pushed (`EntryStep.rti`). -/

namespace Sys2Proof.Machine

open Sys2Proof

/-! ## The boundary (R276, R283, R284) -/

/-- `s` once the host's requests at the boundary `b` are made, with the boundaries `rest` still to come. -/
def State.requested (s : State) (b : Boundary) (rest : List Boundary) : State :=
  { s with inputs := rest, nmiPending := s.nmiPending || b.nmi, irqLine := b.irq }

theorem arrive_eq_requested (s : State) (b : Boundary) (rest : List Boundary) :
    State.arrive { s with inputs := rest } b = s.requested b rest := arrive_eq { s with inputs := rest } b

section
variable {s : State} {b : Boundary} {rest : List Boundary} (hinputs : s.inputs = b :: rest)
include hinputs

theorem step_of_input : step s = State.boundaryStep { s with inputs := rest } b := by
  unfold step
  rw [hinputs]

theorem step_of_no_call (hcall : b.call = none) : step s = (s.requested b rest).cpuStep := by
  rw [step_of_input hinputs, State.boundaryStep, hcall, arrive_eq_requested]

theorem step_of_soft (hcall : b.call = some .soft) : step s = .next (s.requested b rest).softReset := by
  rw [step_of_input hinputs, State.boundaryStep, hcall, arrive_eq_requested]

theorem step_of_powerOn {d : Draw} (hcall : b.call = some (.powerOn d)) :
    step s = .next ((s.requested b rest).powerOn d) := by
  rw [step_of_input hinputs, State.boundaryStep, hcall, arrive_eq_requested]

theorem step_of_load {k : Snapshot} (hcall : b.call = some (.load k)) :
    step s = .next ((s.requested b rest).load k) := by
  rw [step_of_input hinputs, State.boundaryStep, hcall, arrive_eq_requested]

end

/-- Settles O8: the requests reach the CPU before its own step. -/
theorem hostBoundary : Obligations.HostBoundary := fun _ _ _ => ⟨step_of_no_input, step_of_no_call⟩

/-! ## The CPU's step (R272, R273, R289) -/

theorem cpuStep_of_halted {s : State} (h : s.halted = true) : s.cpuStep = .next s := by
  rw [State.cpuStep, if_pos h]

theorem cpuStep_of_nmi {s : State} (hh : s.halted = false) (hn : s.nmiPending = true) :
    s.cpuStep = .next (s.dispatch .nmi) := by
  rw [State.cpuStep, hh, hn]
  rfl

theorem cpuStep_of_irq {s : State} (hh : s.halted = false) (hn : s.nmiPending = false) (hl : s.irqLine = true)
    (hi : s.p.i = false) : s.cpuStep = .next (s.dispatch .irq) := by
  rw [State.cpuStep, hh, hn, hl, hi]
  rfl

/-- Settles O9: the requests do not wake a halted CPU, whose step changes nothing. -/
theorem haltedCpuStays : Obligations.HaltedCpuStays := by
  intro s hhalted
  refine ⟨fun hinputs => ?_, fun b rest hinputs hcall => ?_⟩
  · rw [step_of_no_input hinputs, cpuStep_of_halted hhalted]
  · rw [step_of_no_call hinputs hcall]
    exact cpuStep_of_halted (s := s.requested b rest) hhalted

/-- Settles O7: the CPU's step is the dispatch, which `dispatch_spec` tells whole. -/
theorem interruptDispatch : Obligations.InterruptDispatch := by
  intro s hinputs hhalted
  rw [step_of_no_input hinputs]
  exact ⟨fun hnmi => ⟨_, cpuStep_of_nmi hhalted hnmi, dispatch_spec .nmi s⟩,
    fun hnmi hline hi =>
      have hentry := dispatch_spec .irq s
      ⟨_, cpuStep_of_irq hhalted hnmi hline hi, by rwa [hnmi] at hentry⟩⟩

/-! ## RTI after an entry (R279, R280) -/

theorem stackCell_beq (a b : Byte) : (stackCell a == stackCell b) = (a == b) := by
  rw [Bool.eq_iff_iff, beq_iff_eq, beq_iff_eq, ← BitVec.toNat_inj]
  unfold stackCell
  omega

/-- The three slots of an exception entry are three cells of RAM, so each keeps what was pushed there. -/
theorem EntryStep.pushed {s t : State} {ret : Addr} {brk : Bool} {p' : Flags} {nmi' : Bool} {vec : Addr}
    {before : List Access1} (h : EntryStep s t ret brk p' nmi' vec before) :
    t.sp = s.sp - 3 ∧ t.mem.ram (stackCell (s.sp - 2)) = packP brk s.p ∧
      t.mem.ram (stackCell (s.sp - 1)) = loByte ret ∧ t.mem.ram (stackCell s.sp) = hiByte ret := by
  obtain ⟨_, hcpu, hw, _⟩ := h
  have h12 : (s.sp - 1 == s.sp - 2) = false := by rw [beq_eq_false_iff_ne]; bv_omega
  have h02 : (s.sp == s.sp - 2) = false := by rw [beq_eq_false_iff_ne]; bv_omega
  have h01 : (s.sp == s.sp - 1) = false := by rw [beq_eq_false_iff_ne]; bv_omega
  refine ⟨congrArg State.sp hcpu, hw.ram_eq ?_, hw.ram_eq ?_, hw.ram_eq ?_⟩ <;>
    simp only [List.lookup_cons, stackCell_beq, h12, h02, h01, beq_self_eq_true]

/-- RTI, from a state with the S and the memory that an exception entry left, undoes the entry. -/
theorem EntryStep.rti {s t u v : State} {ret : Addr} {brk : Bool} {p' : Flags} {nmi' : Bool} {vec : Addr}
    {before : List Access1} (h : EntryStep s t ret brk p' nmi' vec before) (hsp : u.sp = t.sp)
    (hmem : ∀ k, u.mem.read k = t.mem.read k) (hrti : exec .rti u = .next v) :
    v.pc = ret ∧ v.p = s.p ∧ v.sp = s.sp := by
  obtain ⟨hsp', hflags, hlo, hhi⟩ := h.pushed
  have h1 : u.sp + 1 = s.sp - 2 := by rw [hsp, hsp']; bv_omega
  have h2 : u.sp + 2 = s.sp - 1 := by rw [hsp, hsp']; bv_omega
  have h3 : u.sp + 3 = s.sp := by rw [hsp, hsp']; bv_omega
  cases hrti
  obtain ⟨hcpu, _⟩ := rti_spec u
  rw [h1, h2, h3, ram_congr hmem, ram_congr hmem, ram_congr hmem, hflags, hlo, hhi, word_hiByte_loByte,
    ← unpackP_eq_flagsOf, unpackP_packP] at hcpu
  obtain ⟨_, _, _, hS, hpc, hp, _⟩ := (cpu_eq_iff _ _).mp hcpu
  exact ⟨hpc, hp, hS⟩

/-- Settles O29: BRK and both dispatches are exception entries. -/
theorem rtiUndoesEntry : Obligations.RtiUndoesEntry := by
  intro s t u v hsp hmem hrti
  refine ⟨fun hbrk => ?_, fun hinputs hhalted htaken hstep => ?_⟩
  · obtain ⟨t', ht', hentry⟩ := execBrk_entry s
    cases hbrk.symm.trans ht'
    exact hentry.rti hsp hmem hrti
  · obtain ⟨k, hk⟩ := step_of_interrupt hinputs hhalted htaken
    cases hstep.symm.trans hk
    exact (dispatch_spec k s).rti hsp hmem hrti

end Sys2Proof.Machine
end

section
/-! O10, O11 and O59: what the host does in place of the CPU's step (70_reset_and_hazards.md R300 to R302,
60_exceptions.md R290): the soft reset, power-on, and the load of a snapshot. -/

namespace Sys2Proof.Machine

open Sys2Proof

/-! ## Soft reset (R302) -/

/-- The soft reset told whole, from the state after the boundary's requests. -/
theorem softReset_spec (s : State) :
    JumpedThrough s s.softReset 0xFFFC ∧ Written s s.softReset [] ∧
      s.softReset.cpu = ({ s with
        sp := s.sp - 3, pc := s.softReset.pc, p := { s.p with i := true }, nmiPending := false, halted := false } :
        State).cpu ∧
      s.softReset.cycles = (s.cycles + 7) % 2 ^ s.cfg.cycleWidth ∧ s.softReset.lastCost = some 7 ∧
      Accessed s s.softReset
        (s.dummies [(.read, s.pc), (.read, s.pc), (.read, stackSlot s.sp), (.read, stackSlot (s.sp - 1)),
          (.read, stackSlot (s.sp - 2))] ++ [(.read, 0xFFFC), (.read, 0xFFFD)]) := by
  set s1 : State := { s with devices := Config.busAfterReset s.devices }
  set s2 := (s1.dummyRead s1.pc).dummyRead s1.pc
  have hreads : Moves s1 s2 [] (s1.dummies [(.read, s1.pc), (.read, s1.pc)]) := dummyRead2_moves s1 s1.pc s1.pc
  have hsame : SameButBus s1 s2 := (dummyRead_sameButBus s1 s1.pc).trans (dummyRead_sameButBus _ s1.pc)
  obtain ⟨hpushes, hcpu3⟩ := suppressedPush3_spec s2
  rw [hsame.sp] at hcpu3 hpushes
  have hmoves := hreads.trans hpushes
  rw [dummies_congr hsame.cfg, dummies_append] at hmoves
  obtain ⟨hjump, hall, hcpu⟩ := startFromVector_spec hmoves (hcpu3.trans (cpu_withSp hsame.cpu _))
  refine ⟨hjump, hall.written, hcpu, ?_, rfl, hall.accessed⟩
  show (s2.suppressedPush.suppressedPush.suppressedPush.startFromVector.cycles + 7) % _ = _
  rw [hall.cycles, hall.cfg]

/-- A halted CPU leaves the halted state at a reset, a power-on or a snapshot load alone (R289, R290). -/
theorem call_of_unhalted {s t : State} (hhalted : s.halted = true) (hstep : step s = .next t)
    (ht : t.halted = false) : ∃ b rest, s.inputs = b :: rest ∧
      (b.call = some .soft ∨ (∃ d, b.call = some (.powerOn d)) ∨ ∃ k, b.call = some (.load k) ∧ k.halted = false) := by
  obtain ⟨hquiet, hrequests⟩ := haltedCpuStays s hhalted
  cases hinputs : s.inputs with
  | nil =>
    obtain rfl := Host.Outcome.next.inj ((hquiet hinputs).symm.trans hstep)
    exact absurd (hhalted.symm.trans ht) nofun
  | cons b rest =>
    refine ⟨b, rest, rfl, ?_⟩
    match hcall : b.call with
    | none =>
      obtain rfl := Host.Outcome.next.inj ((hrequests b rest hinputs hcall).symm.trans hstep)
      exact absurd (hhalted.symm.trans ht) nofun
    | some .soft => exact .inl rfl
    | some (.powerOn d) => exact .inr (.inl ⟨d, rfl⟩)
    | some (.load k) =>
      obtain rfl := Host.Outcome.next.inj ((step_of_load hinputs hcall).symm.trans hstep)
      exact .inr (.inr ⟨k, rfl, ht⟩)

/-- Settles O10: the requests touch only what the reset then overwrites or, with the IRQ level, is the host's. -/
theorem softReset : Obligations.SoftReset :=
  ⟨fun s b rest hinputs hcall => ⟨_, step_of_soft hinputs hcall, softReset_spec (s.requested b rest)⟩,
    fun _ _ => call_of_unhalted⟩

/-! ## Power-on (R300, R301) -/

/-- Settles O11: `powerOn_spec` for the registers and the vector, `poweredUp_ram` and `poweredUp_rom` for memory. -/
theorem powerOn : Obligations.PowerOn := by
  intro s b rest d hinputs hcall
  obtain ⟨_, hvector, _⟩ := startFromVector_spec (Moves.refl ((s.requested b rest).poweredUp d)) (sp := 0xFD) rfl
  obtain ⟨hjump, hcpu⟩ := powerOn_spec (s.requested b rest) d
  exact ⟨_, step_of_powerOn hinputs hcall, hjump, hcpu, poweredUp_ram (s.requested b rest) d,
    poweredUp_rom (s.requested b rest) d, rfl, rfl, powerOn_newest _ d, hvector.accessed⟩

/-! ## Snapshots (60_exceptions.md R290) -/

/-- Neither the record nor the last cost shows in a register trace (`step_blind`). -/
theorem registerTrace_blind (n : Nat) {s t : State} (h : SameButRecord s t) :
    t.registerTrace n = s.registerTrace n := by
  induction n generalizing s t with
  | zero => rfl
  | succ n ih =>
    have hstep := step_blind h
    unfold State.registerTrace
    generalize step s = r at hstep ⊢
    generalize step t = r' at hstep ⊢
    cases hstep with
    | next hnext => simp only [save_blind hnext, ih hnext]
    | fault f => rfl
    | refused r => rfl

/-- Settles O59: a load sets the fields of the snapshot; of a save it gives the saved state but for the record and the
last cost (`load_save`), which no later step sees (`registerTrace_blind`). -/
theorem snapshotRestores : Obligations.SnapshotRestores := by
  intro u b rest k hinputs hcall
  refine ⟨_, step_of_load hinputs hcall, rfl, rfl, rfl, rfl, Memory.ram_withRam u.mem k.ram,
    Memory.read_withRam u.mem k.ram, rfl, rfl, rfl, ?_⟩
  rintro s rfl hs hu hconsole hline rfl
  have hload : (u.requested b s.inputs).load s.save = { s with trace := u.trace, lastCost := none } := by
    rw [load_save (u := u.requested b s.inputs) hs hu hconsole]
    show ({ s with trace := u.trace, lastCost := none, irqLine := b.irq } : State) = _
    rw [← hline]
  rw [hload]
  exact ⟨rfl, fun n => registerTrace_blind n ⟨u.trace, none, rfl⟩⟩

end Sys2Proof.Machine
end

section
/-! O23: what an instruction costs (70_reset_and_hazards.md R308). `exec_pays` says it of every instruction; a stall on
top of it comes from a write to 0x4014 alone (20_memory.md R62). -/

namespace Sys2Proof.Machine

open Sys2Proof

theorem dma_of_busStall {s : State} (h : s.busStall ≠ 0) : s.dmaWritten = true := by
  by_contra hno
  exact h (by rw [State.busStall, if_neg hno])

theorem startsDma_iff {l : List BusEvent} : startsDma l = true ↔ ∃ e ∈ l, e.dir = .write ∧ e.addr = 0x4014 := by
  simp [startsDma]

/-- Settles O23: JAM ends its step with no cost; any other instruction with its row's base cost, what its class adds, and
the stall (`exec_pays`). -/
theorem costFollowsTable : Obligations.CostFollowsTable := by
  intro i s t h
  obtain ⟨hcls, hnone, ⟨_, _, _, _, hcycles, _⟩, hcost, _⟩ |
    ⟨u, base, extra, hbase, ⟨ev, htrace, _, hmark, hcycles, hcfg⟩, rfl, hextra⟩ := exec_pays h
  · exact .inl ⟨hcls, hnone, hcost, hcycles⟩
  · refine .inr ⟨base, extra, u.busStall, hbase, rfl, ?_, hextra.imp_right fun ⟨_, hadd⟩ => hadd, fun hstall => ?_⟩
    · rw [State.finish_cycles, hcycles, hcfg]
      rfl
    · have hdma := dma_of_busStall hstall
      rw [hmark, Bool.or_eq_true] at hdma
      rw [newAccesses_of_trace (t := u.finish (base + extra)) htrace]
      exact hdma.imp_right startsDma_iff.mp

end Sys2Proof.Machine
end
